-- ==== Sys2Proof/Word.lean ====
section
/-! DEFINITION. The word types of konpu-CORE (spec/00_scope.md R7, R8). -/

namespace Sys2Proof

/-- GLEN = 64 bits: a glyph, a G register, RES, one word of MEM (R7). -/
abbrev Word := BitVec 64

/-- ILEN = 32 bits, two's complement: a rectangle field, a canvas width, height or stride (R7). -/
abbrev I32 := BitVec 32

/-- CMDLEN = 32 bits: one command word (R7, R60). -/
abbrev CmdWord := BitVec 32

/-- One 4-bit field of a command word (R61). -/
abbrev Nibble := BitVec 4

/-- QLEN = 16 bits: a quadrant, 4 columns by 4 rows (R7, R10). -/
abbrev Quadrant := BitVec 16

/-- HLEN = 32 bits: a tall half (4 by 8) or a wide half (8 by 4) (R7, R10). -/
abbrev Half := BitVec 32

end Sys2Proof
end

