-- ==== Sys2Proof/Config.lean ====
section
/-! DEFINITION. The open parameters of konpu-CORE (spec/00_scope.md R7): MEM_WORDS, SCREEN_W, SCREEN_H and MEM_INIT.
Nothing in Lean can evaluate the four opaque constants, so what is proved holds for every legal parameter set
(logs 1 and 2). -/

namespace Sys2Proof

/-- The integrator's request for MEM_WORDS, before it is made legal. -/
opaque Config.rawMemWords : Nat

/-- The integrator's request for SCREEN_W, before it is made legal. -/
opaque Config.rawScreenW : Nat

/-- The integrator's request for SCREEN_H, before it is made legal. -/
opaque Config.rawScreenH : Nat

/-- MEM_INIT (R7, R221, D16): the content of MEM at power-on, any function from word addresses to words. -/
opaque Config.memInit : Nat → Word

/-- The nearest number to `n` in `lo .. hi` (for `lo ≤ hi`). -/
def Config.clamp (lo hi n : Nat) : Nat := max lo (min hi n)

/-- MEM_WORDS, `1 ≤ MEM_WORDS ≤ 2^32` (R7): every legal value is the clamp of itself, so none is excluded. -/
def Config.memWords : Nat := Config.clamp 1 (2 ^ 32) Config.rawMemWords

/-- SCREEN_W, `1 ≤ SCREEN_W ≤ 2^31 - 1` and small enough for one row to fit MEM (R7). -/
def Config.screenW : Nat := Config.clamp 1 (min (2 ^ 31 - 1) Config.memWords) Config.rawScreenW

/-- SCREEN_H, `1 ≤ SCREEN_H ≤ 2^31 - 1` with `SCREEN_W * SCREEN_H ≤ MEM_WORDS` (R7). -/
def Config.screenH : Nat :=
  Config.clamp 1 (min (2 ^ 31 - 1) (Config.memWords / Config.screenW)) Config.rawScreenH

end Sys2Proof
end

