-- ==== Sys2Proof/Syntax.lean ====
section
/-! DEFINITION. The 45 commands of konpu-CORE (spec/30_encoding.md R64), one constructor per row of
spec/opcode_table.json, operands in field order. A register operand is an index into its own file (R62). A 4-bit
immediate stays the 4-bit field it is, since the values 8 to 15 decode and then raise OPERAND_RANGE (R63). -/

namespace Sys2Proof

/-- Index of a glyph register G0 to G7 (R20, R62). -/
abbrev GReg := Fin 8

/-- Index of a rectangle register R0 to R3 (R21, R62). -/
abbrev RReg := Fin 4

/-- Index of a canvas register C0 to C3 (R23, R62). -/
abbrev CReg := Fin 4

inductive Instr where
  | nop
  | frompix (gd : GReg) (x y : Nibble)
  | pixval (gs : GReg) (x y : Nibble)
  | rowbyte (gs : GReg) (row : Nibble)
  | lutrd (k : Nibble) (i : BitVec 8)
  | gmask (gd : GReg) (m : Nibble)
  | glyph4 (gd g1 g2 g3 g4 : GReg)
  | tallhalf2 (gd g1 g2 : GReg)
  | widehalf2 (gd g1 g2 : GReg)
  | gmov (gd gs : GReg)
  | gflip (gd gs : GReg)
  | gmirror (gd gs : GReg)
  | grot180 (gd gs : GReg)
  | gtransp (gd gs : GReg)
  | grot270 (gd gs : GReg)
  | grot90 (gd gs : GReg)
  | mtop (gs : GReg)
  | mbot (gs : GReg)
  | mleft (gs : GReg)
  | mright (gs : GReg)
  | gwidth (gs : GReg)
  | gheight (gs : GReg)
  | gmerge (gd ga gb gm : GReg)
  | gshl (gd gs : GReg) (n : Nibble)
  | gshr (gd gs : GReg) (n : Nibble)
  | gshu (gd gs : GReg) (n : Nibble)
  | gshd (gd gs : GReg) (n : Nibble)
  | gcyl (gd gs : GReg) (n : Nibble)
  | gcyr (gd gs : GReg) (n : Nibble)
  | gcyu (gd gs : GReg) (n : Nibble)
  | gcyd (gd gs : GReg) (n : Nibble)
  | rnorm (rd rs : RReg)
  | rtoabs (rd rs : RReg)
  | rtoreg (rd rs : RReg)
  | rclip (rd rs rb : RReg)
  | caddr (cs : CReg) (rr : RReg)
  | cldg (gd : GReg) (cs : CReg) (rr : RReg)
  | cstg (gs : GReg) (cs : CReg) (rr : RReg)
  | cat (gd : GReg) (cs : CReg) (rr : RReg)
  | cput (gs : GReg) (cs : CReg) (rr : RReg)
  | cisnull (cs : CReg)
  | ccrop (cd cs : CReg) (rr : RReg)
  | cfill (cs : CReg) (gs : GReg)
  | cplot (cs : CReg) (rr : RReg)
  | cline (cs : CReg) (rr : RReg)
  deriving DecidableEq, Repr

end Sys2Proof
end

