-- ==== Sys2Proof/Machine/State.lean ====
section
/-! DEFINITION. The state of konpu-CORE (spec/10_state.md, spec/20_memory.md), the six host transactions (R47), the
reasons a step may stop, and the state after reset (R39, R220, R221). Everything is plain data. -/

namespace Sys2Proof.Machine

/-! ### Registers -/

/-- A rectangle register: four signed 32-bit fields (R21). In the absolute encoding field `w` is `x1` and field `h` is
`y1`: the same storage (R22). No tag says which encoding it holds. -/
structure Rect where
  x : I32
  y : I32
  w : I32
  h : I32
  deriving DecidableEq, Repr

/-- A canvas register: one canvas descriptor (R23). `v = false` is the null pointer; `base` is a MEM word index (R24). -/
structure Canvas where
  v : Bool
  base : BitVec 32
  width : I32
  height : I32
  stride : I32
  deriving DecidableEq, Repr

/-- NULLC, the canonical null canvas (R25). -/
def Canvas.null : Canvas := ⟨false, 0, 0, 0, 0⟩

/-! ### The glyph memory -/

/-- The parameter MEM_INIT of a memory (R7, R221): at power-on every word holds any value (`anyWord`, the opaque
`Config.memInit`), or, in a machine whose power-on content is known, the one given word (log 2). -/
inductive PowerOn where
  | anyWord
  | constant (v : Word)
  deriving DecidableEq, Repr

/-- One listed word of MEM: its word address and its value. -/
abbrev MemCell := Nat × Word

/-- MEM (R33, R40): `words` is MEM_WORDS; a word address below it that `cells` does not list still holds its power-on
value. `Memory.WF` (Machine/Ops.lean) is its canonical form (log 3). -/
structure Memory where
  words : Nat
  powerOn : PowerOn
  cells : List MemCell
  deriving DecidableEq, Repr

/-- SCREEN_W and SCREEN_H (R7), the size of the Screen in cells: parameters that no step changes (log 1). -/
structure Screen where
  width : Nat
  height : Nat
  deriving DecidableEq, Repr

/-! ### Transactions and faults -/

/-- The six transactions of the host (R47). -/
inductive Transaction where
  | reset
  | cmd (w : CmdWord)
  | regRead (n : BitVec 8)
  | regWrite (n : BitVec 8) (v : Word)
  | memRead (a : BitVec 32)
  | memWrite (a : BitVec 32) (v : Word)
  deriving DecidableEq, Repr

/-- The seven fault causes (R201). -/
inductive Cause where
  | illegalCmd
  | operandRange
  | badCanvas
  | canvasBounds
  | memRange
  | intOverflow
  | badReg
  deriving DecidableEq, Repr

/-- What kind of transaction faulted: FINFO.SRC (R32). -/
inductive Source where
  /-- A `Cmd` transaction. -/
  | cmd
  /-- A `RegRead` or `RegWrite`. -/
  | reg
  /-- A host `MemRead` or `MemWrite`. -/
  | mem
  deriving DecidableEq, Repr

/-! ### The state -/

/-- The state `(G, R, C, T, FAULT, CAUSE, FINFO, RES, MEM)` of R14, with the model's own fields `screen`, `host` and
`rsp` after it. -/
structure State where
  /-- G0 to G7 (R20). -/
  g : Vector Word 8
  /-- R0 to R3 (R21). -/
  r : Vector Rect 4
  /-- C0 to C3 (R23). -/
  c : Vector Canvas 4
  /-- T, STATUS[0] (R29, R30). -/
  t : Bool
  /-- FAULT, STATUS[1] (R29). -/
  fault : Bool
  /-- CAUSE, STATUS[15:8] (R29, R201). -/
  cause : BitVec 8
  /-- FINFO.INFO, FINFO[31:0] (R32). -/
  info : BitVec 32
  /-- FINFO.SRC, FINFO[33:32] (R32). -/
  src : BitVec 2
  /-- RES (R31). -/
  res : Word
  /-- MEM (R33, R40), with the parameters MEM_WORDS and MEM_INIT. -/
  mem : Memory
  /-- The parameters SCREEN_W and SCREEN_H (R7; log 1). -/
  screen : Screen
  /-- The transactions the host has yet to issue, the next one first (R47; log 4). -/
  host : List Transaction
  /-- The value the last transaction returned, if it returned one (R47; log 5). -/
  rsp : Option Word
  deriving DecidableEq, Repr

/-- No reason to stop exists: the block never performs an undefined action (R200), and what it calls a fault is a
next state with the fault record written (R204, R206). The type has no constructor, so that no step can stop. -/
inductive Fault where
  deriving DecidableEq, Repr

/-- Why the model refuses an instruction. -/
inductive Refusal where
  /-- Raised by an arm of `exec` for an instruction that has no meaning yet (safe: nothing is claimed of it). Every
  command has its meaning, so no arm raises it. -/
  | notModelled (mnemonic : String)
  deriving DecidableEq, Repr

/-! ### Reset -/

/-- The Screen descriptor, the reset value of C0 (R39). -/
def Screen.canvas (sc : Screen) : Canvas :=
  { v := true, base := 0, width := BitVec.ofNat 32 sc.width, height := BitVec.ofNat 32 sc.height,
    stride := BitVec.ofNat 32 sc.width }

/-- The state after the first `Reset` of a block with the given parameters (R39, R220, R221): registers at their reset
values, MEM at its power-on content, no transaction issued yet. -/
def State.resetWith (memWords : Nat) (powerOn : PowerOn) (screen : Screen) : State :=
  { g := Vector.replicate 8 0
    r := Vector.replicate 4 ⟨0, 0, 0, 0⟩
    c := #v[screen.canvas, Canvas.null, Canvas.null, Canvas.null]
    t := false
    fault := false
    cause := 0
    info := 0
    src := 0
    res := 0
    mem := ⟨memWords, powerOn, []⟩
    screen := screen
    host := []
    rsp := none }

/-- The machine right after reset, for the open parameters of Config (R39, R221; logs 1, 2, 4, 5). -/
def State.reset : State :=
  State.resetWith Config.memWords .anyWord ⟨Config.screenW, Config.screenH⟩

end Sys2Proof.Machine
end

