-- ==== Sys2Proof/Machine/Ops.lean ====
section
/-! DEFINITION. The named operations on registers and memory (spec/00_scope.md R12; spec/20_memory.md R42, R43), taking
a fault (spec/60_exceptions.md R204) and leaving the faulted state (spec/70_reset_and_hazards.md R220). -/

namespace Sys2Proof.Machine

/-! ### Register access (R12) -/

/-- `G[i]`. -/
def State.G (s : State) (i : GReg) : Word := s.g[i]
/-- `R[i]`. -/
def State.R (s : State) (i : RReg) : Rect := s.r[i]
/-- `C[i]`. -/
def State.C (s : State) (i : CReg) : Canvas := s.c[i]
/-- `G[i] <- v`. -/
def State.setG (s : State) (i : GReg) (v : Word) : State := { s with g := s.g.set i v }
/-- `R[i] <- q`. -/
def State.setR (s : State) (i : RReg) (q : Rect) : State := { s with r := s.r.set i q }
/-- `C[i] <- d`. -/
def State.setC (s : State) (i : CReg) (d : Canvas) : State := { s with c := s.c.set i d }

/-- MEM replaced as a whole. -/
def State.setMem (s : State) (m : Memory) : State := { s with mem := m }

/-! ### MEM: a canonical list of the words that differ from their power-on value (log 3) -/

/-- What an address that no entry lists reads as: its power-on value (R221; log 2). -/
def Memory.unlisted (m : Memory) (a : Nat) : Word :=
  match m.powerOn with
  | .anyWord => Config.memInit a
  | .constant v => v

/-- The entry of address `a`, if one is listed. -/
def cellAt (a : Nat) : List MemCell → Option Word
  | [] => none
  | (b, v) :: t => if a = b then some v else cellAt a t

/-- List `v` at `a`, addresses rising. -/
def putCell (a : Nat) (v : Word) : List MemCell → List MemCell
  | [] => [(a, v)]
  | (b, u) :: t =>
    if a < b then (a, v) :: (b, u) :: t
    else if a = b then (a, v) :: t
    else (b, u) :: putCell a v t

/-- Unlist `a`. -/
def dropCell (a : Nat) : List MemCell → List MemCell
  | [] => []
  | (b, u) :: t => if a = b then dropCell a t else (b, u) :: dropCell a t

/-- `MEM[a]` (R42): the listed value, else the power-on value. -/
def Memory.read (m : Memory) (a : Nat) : Word := (cellAt a m.cells).getD (m.unlisted a)

/-- `MEM[a] <- v`, all 64 bits, nothing else (R43). Writing the value an unlisted address reads as unlists `a`. -/
def Memory.write (m : Memory) (a : Nat) (v : Word) : Memory :=
  if v = m.unlisted a then { m with cells := dropCell a m.cells }
  else { m with cells := putCell a v m.cells }

/-- The canonical form: addresses strictly rising, each inside MEM, no entry equal to what an unlisted address reads as. -/
abbrev Memory.WF (m : Memory) : Prop :=
  m.cells.Pairwise (fun p q => p.1 < q.1) ∧ ∀ p ∈ m.cells, p.1 < m.words ∧ p.2 ≠ m.unlisted p.1

/-! ### Numbers -/

/-- `InI32(v)` (R11). -/
abbrev InI32 (v : Int) : Prop := -(2 ^ 31) ≤ v ∧ v ≤ 2 ^ 31 - 1

/-- `clamp(v, lo, hi)` (R11). -/
def clampInt (v lo hi : Int) : Int := if v < lo then lo else if v > hi then hi else v

/-! ### Faults -/

/-- The cause code of STATUS.CAUSE (R201). -/
def Cause.code : Cause → BitVec 8
  | .illegalCmd => 1
  | .operandRange => 2
  | .badCanvas => 3
  | .canvasBounds => 4
  | .memRange => 5
  | .intOverflow => 6
  | .badReg => 7

/-- FINFO.SRC (R32). -/
def Source.code : Source → BitVec 2
  | .cmd => 1
  | .reg => 2
  | .mem => 3

/-- Taking a fault (R202, R204): the fault record is written over the state the transaction found, nothing else
changes, control goes nowhere. -/
def State.raise (s : State) (k : Cause) (src : Source) (info : BitVec 32) : State :=
  { s with fault := true, cause := k.code, src := src.code, info := info }

/-- The `Reset` transaction (R220), the only way out of the faulted state (R206): every register at its reset value,
MEM untouched, the parameters and the host's later transactions as they are (log 10). -/
def State.resetBlock (s : State) : State :=
  { s with
    g := Vector.replicate 8 0
    r := Vector.replicate 4 ⟨0, 0, 0, 0⟩
    c := #v[s.screen.canvas, Canvas.null, Canvas.null, Canvas.null]
    t := false
    fault := false
    cause := 0
    info := 0
    src := 0
    res := 0
    rsp := none }

/-! ### The effect of a command -/

/-- What a command does: the state it leaves, or the fault it raises (R203: at most one). -/
abbrev Effect := Except Cause State

/-- One test of a command's pseudocode: `if not p then raise Fault(k)`, else go on. -/
def require (p : Prop) [Decidable p] (k : Cause) (e : Effect) : Effect := if p then e else .error k

/-- The end of the command with the word `w`, begun in `s`: its state, or the fault taken in the state it found (R204),
recorded with FINFO.SRC = 1 and FINFO.INFO the command word (R66, R202). -/
def complete (w : CmdWord) (s : State) (e : Effect) : Host.Outcome State Fault Refusal :=
  .next (match e with
    | .ok s' => s'
    | .error k => s.raise k .cmd w)

/-! ### The memory primitives of the canvas commands -/

/-- `MemRead(a)` (R42). -/
def State.loadWord (s : State) (a : Int) : Except Cause Word :=
  if 0 ≤ a ∧ a < s.mem.words then .ok (s.mem.read a.toNat) else .error .memRange

/-- `MemWrite(a, v)` (R43). -/
def State.storeWord (s : State) (a : Int) (v : Word) : Effect :=
  if 0 ≤ a ∧ a < s.mem.words then .ok (s.setMem (s.mem.write a.toNat v)) else .error .memRange

/-- `MemWrite(a, v)` for each address of a list, in order. -/
def State.storeAll (s : State) (v : Word) : List Int → Effect
  | [] => .ok s
  | a :: as =>
    match s.storeWord a v with
    | .ok s' => s'.storeAll v as
    | .error k => .error k

end Sys2Proof.Machine
end

