-- ==== Sys2Proof/Machine/Operands.lean ====
section
/-! DEFINITION. The operand forms of the commands: 4-bit immediates (spec/30_encoding.md R63), quadrants and halves in
G registers (spec/41_glyph_compose.md R101), rectangle registers as a point, a rectangle or bounds (spec/10_state.md
R22, spec/47_canvas.md R175), and rectangles of exact integers (spec/46_rect_clipper.md R165). -/

namespace Sys2Proof.Machine

/-- A 4-bit immediate within the document's contract, 0 to 7 (R63). -/
abbrev InRange (x : Nibble) : Prop := x.toNat ≤ 7

/-- A LUTRD bit index within range, 0 to 63 (R63). -/
abbrev InLut (i : BitVec 8) : Prop := i.toNat ≤ 63

/-- A quadrant operand: the low 16 bits of a G register (R101). -/
def State.quad (s : State) (i : GReg) : Quadrant := (s.G i).extractLsb' 0 16

/-- A half result in a G register, zero-extended (R101). -/
def halfWord (h : Half) : Word := h.setWidth 64

/-- Four exact integers: a rectangle as the pseudocode computes it (R11, R165). -/
structure IRect where
  x : Int
  y : Int
  w : Int
  h : Int
  deriving DecidableEq, Repr

/-- The four fields of a rectangle register, sign-extended (R165). -/
def Rect.ints (q : Rect) : IRect := ⟨q.x.toInt, q.y.toInt, q.w.toInt, q.h.toInt⟩

/-- The register that holds four integers; meant for integers that fit (R165). -/
def IRect.toRect (q : IRect) : Rect :=
  ⟨BitVec.ofInt 32 q.x, BitVec.ofInt 32 q.y, BitVec.ofInt 32 q.w, BitVec.ofInt 32 q.h⟩

/-- Every field fits its 32 bits (R165). -/
abbrev IRect.Fits (q : IRect) : Prop := InI32 q.x ∧ InI32 q.y ∧ InI32 q.w ∧ InI32 q.h

/-- `R[i]` as four signed integers: a regular rectangle `(x, y, w, h)`, or two points `(x, y)`, `(x1, y1)` (R22). -/
def State.rect (s : State) (i : RReg) : IRect := (s.R i).ints

/-- `R[i] <- q`: INT_OVERFLOW when a field does not fit (R165). -/
def State.putRect (s : State) (i : RReg) (q : IRect) : Effect :=
  require q.Fits .intOverflow (.ok (s.setR i q.toRect))

end Sys2Proof.Machine
end

