-- ==== Sys2Proof/WellFormed.lean ====
section
/-! DEFINITION. Which terms of `Instr` stand for a command word (spec/30_encoding.md R66 steps 1 to 3). Register
indices are bounded by their types and every 4-bit immediate can be written in its field, so the one check is the
permutation selector of LUTRD: `k = 0 .. 6` are legal, `7 .. 15` make the command illegal (R63, R70). -/

namespace Sys2Proof

/-- True when the term has an encoding that decodes (R66 steps 1 to 3). -/
def Instr.wellFormed : Instr → Bool
  | .nop => true
  | .frompix _ _ _ => true
  | .pixval _ _ _ => true
  | .rowbyte _ _ => true
  | .lutrd k _ => decide (k.toNat < 7)
  | .gmask _ _ => true
  | .glyph4 _ _ _ _ _ => true
  | .tallhalf2 _ _ _ => true
  | .widehalf2 _ _ _ => true
  | .gmov _ _ => true
  | .gflip _ _ => true
  | .gmirror _ _ => true
  | .grot180 _ _ => true
  | .gtransp _ _ => true
  | .grot270 _ _ => true
  | .grot90 _ _ => true
  | .mtop _ => true
  | .mbot _ => true
  | .mleft _ => true
  | .mright _ => true
  | .gwidth _ => true
  | .gheight _ => true
  | .gmerge _ _ _ _ => true
  | .gshl _ _ _ => true
  | .gshr _ _ _ => true
  | .gshu _ _ _ => true
  | .gshd _ _ _ => true
  | .gcyl _ _ _ => true
  | .gcyr _ _ _ => true
  | .gcyu _ _ _ => true
  | .gcyd _ _ _ => true
  | .rnorm _ _ => true
  | .rtoabs _ _ => true
  | .rtoreg _ _ => true
  | .rclip _ _ _ => true
  | .caddr _ _ => true
  | .cldg _ _ _ => true
  | .cstg _ _ _ => true
  | .cat _ _ _ => true
  | .cput _ _ _ => true
  | .cisnull _ => true
  | .ccrop _ _ _ => true
  | .cfill _ _ => true
  | .cplot _ _ => true
  | .cline _ _ => true

end Sys2Proof
end

