-- ==== Sys2Proof/Decode.lean ====
section
/-! DEFINITION. The command encoding (spec/30_encoding.md): the seven fields of a word (R61), the decode procedure
(R66 steps 1 to 3; step 4, OPERAND_RANGE, is the first test of each meaning that has such an immediate), the encoder,
the opcode table's masks (R67) and the host's `decodeTableWord`. -/

namespace Sys2Proof

/-- Why a word is no command (R66 steps 1 to 3). All four raise ILLEGAL_CMD; the hardware does not tell them apart
(R203), the names are for the reader only (log 14). -/
inductive DecodeError where
  /-- Step 1: the opcode is not in the table of R64. -/
  | reservedOpcode
  /-- Step 2: a field marked `-` is not 0. -/
  | unusedFieldNotZero
  /-- Step 3: a register field is outside its file. -/
  | registerOutOfFile
  /-- Step 3: LUTRD with `k ≥ 7`. -/
  | reservedSelector
  deriving DecidableEq, Repr

/-! ### The fields of a word (R61) -/

/-- `op = w[31:24]`. -/
def opOf (w : CmdWord) : BitVec 8 := w.extractLsb' 24 8
/-- `fa = w[23:20]`. -/
def faOf (w : CmdWord) : Nibble := w.extractLsb' 20 4
/-- `fb = w[19:16]`. -/
def fbOf (w : CmdWord) : Nibble := w.extractLsb' 16 4
/-- `fc = w[15:12]`. -/
def fcOf (w : CmdWord) : Nibble := w.extractLsb' 12 4
/-- `fd = w[11:8]`. -/
def fdOf (w : CmdWord) : Nibble := w.extractLsb' 8 4
/-- `fe = w[7:4]`. -/
def feOf (w : CmdWord) : Nibble := w.extractLsb' 4 4
/-- `ff = w[3:0]`. -/
def ffOf (w : CmdWord) : Nibble := w.extractLsb' 0 4

/-- The word with the given seven fields (R61): written in hexadecimal it reads `OO a b c d e f`. -/
def cmdWord (op : BitVec 8) (fa fb fc fd fe ff : Nibble) : CmdWord :=
  op ++ fa ++ fb ++ fc ++ fd ++ fe ++ ff

/-! ### Decoding (R62, R63, R66) -/

/-- Step 2: the fields marked `-` must all be 0. -/
def unused (fs : List Nibble) (k : Except DecodeError Instr) : Except DecodeError Instr :=
  if fs.all (· == 0) then k else .error .unusedFieldNotZero

/-- Step 3: a glyph register field; its bit 3 must be 0 (R62). -/
def gField (f : Nibble) (k : GReg → Except DecodeError Instr) : Except DecodeError Instr :=
  if h : f.toNat < 8 then k ⟨f.toNat, h⟩ else .error .registerOutOfFile

/-- Step 3: a rectangle register field; its bits 3:2 must be 0 (R62). -/
def rField (f : Nibble) (k : RReg → Except DecodeError Instr) : Except DecodeError Instr :=
  if h : f.toNat < 4 then k ⟨f.toNat, h⟩ else .error .registerOutOfFile

/-- Step 3: a canvas register field; its bits 3:2 must be 0 (R62). -/
def cField (f : Nibble) (k : CReg → Except DecodeError Instr) : Except DecodeError Instr :=
  if h : f.toNat < 4 then k ⟨f.toNat, h⟩ else .error .registerOutOfFile

/-- Step 3: LUTRD's selector, 0 to 6 (R63, R70). -/
def selector (f : Nibble) (k : Except DecodeError Instr) : Except DecodeError Instr :=
  if f.toNat < 7 then k else .error .reservedSelector

/-- The table of R64, row by row, on the seven fields of a word. -/
def decodeFields (op : BitVec 8) (fa fb fc fd fe ff : Nibble) : Except DecodeError Instr :=
  match op.toNat with
  | 0x00 => unused [fa, fb, fc, fd, fe, ff] <| .ok .nop
  | 0x01 => unused [fd, fe, ff] <| gField fa fun gd => .ok (.frompix gd fb fc)
  | 0x02 => unused [fd, fe, ff] <| gField fa fun gs => .ok (.pixval gs fb fc)
  | 0x03 => unused [fc, fd, fe, ff] <| gField fa fun gs => .ok (.rowbyte gs fb)
  | 0x04 => unused [fb, fc, fd] <| selector fa <| .ok (.lutrd fa (fe ++ ff))
  | 0x05 => unused [fc, fd, fe, ff] <| gField fa fun gd => .ok (.gmask gd fb)
  | 0x06 => unused [ff] <| gField fa fun gd => gField fb fun g1 => gField fc fun g2 => gField fd fun g3 => gField fe fun g4 => .ok (.glyph4 gd g1 g2 g3 g4)
  | 0x07 => unused [fd, fe, ff] <| gField fa fun gd => gField fb fun g1 => gField fc fun g2 => .ok (.tallhalf2 gd g1 g2)
  | 0x08 => unused [fd, fe, ff] <| gField fa fun gd => gField fb fun g1 => gField fc fun g2 => .ok (.widehalf2 gd g1 g2)
  | 0x10 => unused [fc, fd, fe, ff] <| gField fa fun gd => gField fb fun gs => .ok (.gmov gd gs)
  | 0x11 => unused [fc, fd, fe, ff] <| gField fa fun gd => gField fb fun gs => .ok (.gflip gd gs)
  | 0x12 => unused [fc, fd, fe, ff] <| gField fa fun gd => gField fb fun gs => .ok (.gmirror gd gs)
  | 0x13 => unused [fc, fd, fe, ff] <| gField fa fun gd => gField fb fun gs => .ok (.grot180 gd gs)
  | 0x14 => unused [fc, fd, fe, ff] <| gField fa fun gd => gField fb fun gs => .ok (.gtransp gd gs)
  | 0x15 => unused [fc, fd, fe, ff] <| gField fa fun gd => gField fb fun gs => .ok (.grot270 gd gs)
  | 0x16 => unused [fc, fd, fe, ff] <| gField fa fun gd => gField fb fun gs => .ok (.grot90 gd gs)
  | 0x20 => unused [fb, fc, fd, fe, ff] <| gField fa fun gs => .ok (.mtop gs)
  | 0x21 => unused [fb, fc, fd, fe, ff] <| gField fa fun gs => .ok (.mbot gs)
  | 0x22 => unused [fb, fc, fd, fe, ff] <| gField fa fun gs => .ok (.mleft gs)
  | 0x23 => unused [fb, fc, fd, fe, ff] <| gField fa fun gs => .ok (.mright gs)
  | 0x24 => unused [fb, fc, fd, fe, ff] <| gField fa fun gs => .ok (.gwidth gs)
  | 0x25 => unused [fb, fc, fd, fe, ff] <| gField fa fun gs => .ok (.gheight gs)
  | 0x30 => unused [fe, ff] <| gField fa fun gd => gField fb fun ga => gField fc fun gb => gField fd fun gm => .ok (.gmerge gd ga gb gm)
  | 0x40 => unused [fd, fe, ff] <| gField fa fun gd => gField fb fun gs => .ok (.gshl gd gs fc)
  | 0x41 => unused [fd, fe, ff] <| gField fa fun gd => gField fb fun gs => .ok (.gshr gd gs fc)
  | 0x42 => unused [fd, fe, ff] <| gField fa fun gd => gField fb fun gs => .ok (.gshu gd gs fc)
  | 0x43 => unused [fd, fe, ff] <| gField fa fun gd => gField fb fun gs => .ok (.gshd gd gs fc)
  | 0x44 => unused [fd, fe, ff] <| gField fa fun gd => gField fb fun gs => .ok (.gcyl gd gs fc)
  | 0x45 => unused [fd, fe, ff] <| gField fa fun gd => gField fb fun gs => .ok (.gcyr gd gs fc)
  | 0x46 => unused [fd, fe, ff] <| gField fa fun gd => gField fb fun gs => .ok (.gcyu gd gs fc)
  | 0x47 => unused [fd, fe, ff] <| gField fa fun gd => gField fb fun gs => .ok (.gcyd gd gs fc)
  | 0x50 => unused [fc, fd, fe, ff] <| rField fa fun rd => rField fb fun rs => .ok (.rnorm rd rs)
  | 0x51 => unused [fc, fd, fe, ff] <| rField fa fun rd => rField fb fun rs => .ok (.rtoabs rd rs)
  | 0x52 => unused [fc, fd, fe, ff] <| rField fa fun rd => rField fb fun rs => .ok (.rtoreg rd rs)
  | 0x53 => unused [fd, fe, ff] <| rField fa fun rd => rField fb fun rs => rField fc fun rb => .ok (.rclip rd rs rb)
  | 0x60 => unused [fc, fd, fe, ff] <| cField fa fun cs => rField fb fun rr => .ok (.caddr cs rr)
  | 0x61 => unused [fd, fe, ff] <| gField fa fun gd => cField fb fun cs => rField fc fun rr => .ok (.cldg gd cs rr)
  | 0x62 => unused [fd, fe, ff] <| gField fa fun gs => cField fb fun cs => rField fc fun rr => .ok (.cstg gs cs rr)
  | 0x63 => unused [fd, fe, ff] <| gField fa fun gd => cField fb fun cs => rField fc fun rr => .ok (.cat gd cs rr)
  | 0x64 => unused [fd, fe, ff] <| gField fa fun gs => cField fb fun cs => rField fc fun rr => .ok (.cput gs cs rr)
  | 0x65 => unused [fb, fc, fd, fe, ff] <| cField fa fun cs => .ok (.cisnull cs)
  | 0x66 => unused [fd, fe, ff] <| cField fa fun cd => cField fb fun cs => rField fc fun rr => .ok (.ccrop cd cs rr)
  | 0x67 => unused [fc, fd, fe, ff] <| cField fa fun cs => gField fb fun gs => .ok (.cfill cs gs)
  | 0x68 => unused [fc, fd, fe, ff] <| cField fa fun cs => rField fb fun rr => .ok (.cplot cs rr)
  | 0x69 => unused [fc, fd, fe, ff] <| cField fa fun cs => rField fb fun rr => .ok (.cline cs rr)
  | _ => .error .reservedOpcode

/-- R66 steps 1 to 3: total on every 32-bit word. -/
def decode (w : CmdWord) : Except DecodeError Instr :=
  decodeFields (opOf w) (faOf w) (fbOf w) (fcOf w) (fdOf w) (feOf w) (ffOf w)

/-! ### Encoding (R61 to R64) -/

/-- A register index in its 4-bit field (R62). -/
def nib {n : Nat} (i : Fin n) : Nibble := BitVec.ofNat 4 i.val

/-- The word of a command (R64). For a well-formed command `decode` reads it back. -/
def encode : Instr → CmdWord
  | .nop => cmdWord 0x00 0 0 0 0 0 0
  | .frompix gd x y => cmdWord 0x01 (nib gd) x y 0 0 0
  | .pixval gs x y => cmdWord 0x02 (nib gs) x y 0 0 0
  | .rowbyte gs row => cmdWord 0x03 (nib gs) row 0 0 0 0
  | .lutrd k i => cmdWord 0x04 k 0 0 0 (i.extractLsb' 4 4) (i.extractLsb' 0 4)
  | .gmask gd m => cmdWord 0x05 (nib gd) m 0 0 0 0
  | .glyph4 gd g1 g2 g3 g4 => cmdWord 0x06 (nib gd) (nib g1) (nib g2) (nib g3) (nib g4) 0
  | .tallhalf2 gd g1 g2 => cmdWord 0x07 (nib gd) (nib g1) (nib g2) 0 0 0
  | .widehalf2 gd g1 g2 => cmdWord 0x08 (nib gd) (nib g1) (nib g2) 0 0 0
  | .gmov gd gs => cmdWord 0x10 (nib gd) (nib gs) 0 0 0 0
  | .gflip gd gs => cmdWord 0x11 (nib gd) (nib gs) 0 0 0 0
  | .gmirror gd gs => cmdWord 0x12 (nib gd) (nib gs) 0 0 0 0
  | .grot180 gd gs => cmdWord 0x13 (nib gd) (nib gs) 0 0 0 0
  | .gtransp gd gs => cmdWord 0x14 (nib gd) (nib gs) 0 0 0 0
  | .grot270 gd gs => cmdWord 0x15 (nib gd) (nib gs) 0 0 0 0
  | .grot90 gd gs => cmdWord 0x16 (nib gd) (nib gs) 0 0 0 0
  | .mtop gs => cmdWord 0x20 (nib gs) 0 0 0 0 0
  | .mbot gs => cmdWord 0x21 (nib gs) 0 0 0 0 0
  | .mleft gs => cmdWord 0x22 (nib gs) 0 0 0 0 0
  | .mright gs => cmdWord 0x23 (nib gs) 0 0 0 0 0
  | .gwidth gs => cmdWord 0x24 (nib gs) 0 0 0 0 0
  | .gheight gs => cmdWord 0x25 (nib gs) 0 0 0 0 0
  | .gmerge gd ga gb gm => cmdWord 0x30 (nib gd) (nib ga) (nib gb) (nib gm) 0 0
  | .gshl gd gs n => cmdWord 0x40 (nib gd) (nib gs) n 0 0 0
  | .gshr gd gs n => cmdWord 0x41 (nib gd) (nib gs) n 0 0 0
  | .gshu gd gs n => cmdWord 0x42 (nib gd) (nib gs) n 0 0 0
  | .gshd gd gs n => cmdWord 0x43 (nib gd) (nib gs) n 0 0 0
  | .gcyl gd gs n => cmdWord 0x44 (nib gd) (nib gs) n 0 0 0
  | .gcyr gd gs n => cmdWord 0x45 (nib gd) (nib gs) n 0 0 0
  | .gcyu gd gs n => cmdWord 0x46 (nib gd) (nib gs) n 0 0 0
  | .gcyd gd gs n => cmdWord 0x47 (nib gd) (nib gs) n 0 0 0
  | .rnorm rd rs => cmdWord 0x50 (nib rd) (nib rs) 0 0 0 0
  | .rtoabs rd rs => cmdWord 0x51 (nib rd) (nib rs) 0 0 0 0
  | .rtoreg rd rs => cmdWord 0x52 (nib rd) (nib rs) 0 0 0 0
  | .rclip rd rs rb => cmdWord 0x53 (nib rd) (nib rs) (nib rb) 0 0 0
  | .caddr cs rr => cmdWord 0x60 (nib cs) (nib rr) 0 0 0 0
  | .cldg gd cs rr => cmdWord 0x61 (nib gd) (nib cs) (nib rr) 0 0 0
  | .cstg gs cs rr => cmdWord 0x62 (nib gs) (nib cs) (nib rr) 0 0 0
  | .cat gd cs rr => cmdWord 0x63 (nib gd) (nib cs) (nib rr) 0 0 0
  | .cput gs cs rr => cmdWord 0x64 (nib gs) (nib cs) (nib rr) 0 0 0
  | .cisnull cs => cmdWord 0x65 (nib cs) 0 0 0 0 0
  | .ccrop cd cs rr => cmdWord 0x66 (nib cd) (nib cs) (nib rr) 0 0 0
  | .cfill cs gs => cmdWord 0x67 (nib cs) (nib gs) 0 0 0 0
  | .cplot cs rr => cmdWord 0x68 (nib cs) (nib rr) 0 0 0 0
  | .cline cs rr => cmdWord 0x69 (nib cs) (nib rr) 0 0 0 0

/-! ### The machine-readable opcode table (R67) -/

/-- The table's mnemonic of a command (R64). -/
def Instr.mnemonic : Instr → String
  | .nop => "NOP"
  | .frompix _ _ _ => "FROMPIX"
  | .pixval _ _ _ => "PIXVAL"
  | .rowbyte _ _ => "ROWBYTE"
  | .lutrd _ _ => "LUTRD"
  | .gmask _ _ => "GMASK"
  | .glyph4 _ _ _ _ _ => "GLYPH4"
  | .tallhalf2 _ _ _ => "TALLHALF2"
  | .widehalf2 _ _ _ => "WIDEHALF2"
  | .gmov _ _ => "GMOV"
  | .gflip _ _ => "GFLIP"
  | .gmirror _ _ => "GMIRROR"
  | .grot180 _ _ => "GROT180"
  | .gtransp _ _ => "GTRANSP"
  | .grot270 _ _ => "GROT270"
  | .grot90 _ _ => "GROT90"
  | .mtop _ => "MTOP"
  | .mbot _ => "MBOT"
  | .mleft _ => "MLEFT"
  | .mright _ => "MRIGHT"
  | .gwidth _ => "GWIDTH"
  | .gheight _ => "GHEIGHT"
  | .gmerge _ _ _ _ => "GMERGE"
  | .gshl _ _ _ => "GSHL"
  | .gshr _ _ _ => "GSHR"
  | .gshu _ _ _ => "GSHU"
  | .gshd _ _ _ => "GSHD"
  | .gcyl _ _ _ => "GCYL"
  | .gcyr _ _ _ => "GCYR"
  | .gcyu _ _ _ => "GCYU"
  | .gcyd _ _ _ => "GCYD"
  | .rnorm _ _ => "RNORM"
  | .rtoabs _ _ => "RTOABS"
  | .rtoreg _ _ => "RTOREG"
  | .rclip _ _ _ => "RCLIP"
  | .caddr _ _ => "CADDR"
  | .cldg _ _ _ => "CLDG"
  | .cstg _ _ _ => "CSTG"
  | .cat _ _ _ => "CAT"
  | .cput _ _ _ => "CPUT"
  | .cisnull _ => "CISNULL"
  | .ccrop _ _ _ => "CCROP"
  | .cfill _ _ => "CFILL"
  | .cplot _ _ => "CPLOT"
  | .cline _ _ => "CLINE"

/-- One row of spec/opcode_table.json: the word `w` is of this row when `w &&& mask = value`, with the exception that
LUTRD also needs `fa ≠ 7` (R67). -/
structure OpRow where
  mnemonic : String
  mask : CmdWord
  value : CmdWord
  deriving DecidableEq, Repr

/-- Rows 1 to 15 of spec/opcode_table.json. -/
def opcodeTableA : List OpRow := [
  ⟨"NOP", 0xFFFFFFFF, 0x00000000⟩,
  ⟨"FROMPIX", 0xFF800FFF, 0x01000000⟩,
  ⟨"PIXVAL", 0xFF800FFF, 0x02000000⟩,
  ⟨"ROWBYTE", 0xFF80FFFF, 0x03000000⟩,
  ⟨"LUTRD", 0xFF8FFF00, 0x04000000⟩,
  ⟨"GMASK", 0xFF80FFFF, 0x05000000⟩,
  ⟨"GLYPH4", 0xFF88888F, 0x06000000⟩,
  ⟨"TALLHALF2", 0xFF888FFF, 0x07000000⟩,
  ⟨"WIDEHALF2", 0xFF888FFF, 0x08000000⟩,
  ⟨"GMOV", 0xFF88FFFF, 0x10000000⟩,
  ⟨"GFLIP", 0xFF88FFFF, 0x11000000⟩,
  ⟨"GMIRROR", 0xFF88FFFF, 0x12000000⟩,
  ⟨"GROT180", 0xFF88FFFF, 0x13000000⟩,
  ⟨"GTRANSP", 0xFF88FFFF, 0x14000000⟩,
  ⟨"GROT270", 0xFF88FFFF, 0x15000000⟩]

/-- Rows 16 to 30 of spec/opcode_table.json. -/
def opcodeTableB : List OpRow := [
  ⟨"GROT90", 0xFF88FFFF, 0x16000000⟩,
  ⟨"MTOP", 0xFF8FFFFF, 0x20000000⟩,
  ⟨"MBOT", 0xFF8FFFFF, 0x21000000⟩,
  ⟨"MLEFT", 0xFF8FFFFF, 0x22000000⟩,
  ⟨"MRIGHT", 0xFF8FFFFF, 0x23000000⟩,
  ⟨"GWIDTH", 0xFF8FFFFF, 0x24000000⟩,
  ⟨"GHEIGHT", 0xFF8FFFFF, 0x25000000⟩,
  ⟨"GMERGE", 0xFF8888FF, 0x30000000⟩,
  ⟨"GSHL", 0xFF880FFF, 0x40000000⟩,
  ⟨"GSHR", 0xFF880FFF, 0x41000000⟩,
  ⟨"GSHU", 0xFF880FFF, 0x42000000⟩,
  ⟨"GSHD", 0xFF880FFF, 0x43000000⟩,
  ⟨"GCYL", 0xFF880FFF, 0x44000000⟩,
  ⟨"GCYR", 0xFF880FFF, 0x45000000⟩,
  ⟨"GCYU", 0xFF880FFF, 0x46000000⟩]

/-- Rows 31 to 45 of spec/opcode_table.json. -/
def opcodeTableC : List OpRow := [
  ⟨"GCYD", 0xFF880FFF, 0x47000000⟩,
  ⟨"RNORM", 0xFFCCFFFF, 0x50000000⟩,
  ⟨"RTOABS", 0xFFCCFFFF, 0x51000000⟩,
  ⟨"RTOREG", 0xFFCCFFFF, 0x52000000⟩,
  ⟨"RCLIP", 0xFFCCCFFF, 0x53000000⟩,
  ⟨"CADDR", 0xFFCCFFFF, 0x60000000⟩,
  ⟨"CLDG", 0xFF8CCFFF, 0x61000000⟩,
  ⟨"CSTG", 0xFF8CCFFF, 0x62000000⟩,
  ⟨"CAT", 0xFF8CCFFF, 0x63000000⟩,
  ⟨"CPUT", 0xFF8CCFFF, 0x64000000⟩,
  ⟨"CISNULL", 0xFFCFFFFF, 0x65000000⟩,
  ⟨"CCROP", 0xFFCCCFFF, 0x66000000⟩,
  ⟨"CFILL", 0xFFC8FFFF, 0x67000000⟩,
  ⟨"CPLOT", 0xFFCCFFFF, 0x68000000⟩,
  ⟨"CLINE", 0xFFCCFFFF, 0x69000000⟩]

/-- spec/opcode_table.json, its 45 rows in order. -/
def opcodeTable : List OpRow := opcodeTableA ++ opcodeTableB ++ opcodeTableC

/-- The row selects the word (R67). -/
def OpRow.selects (row : OpRow) (w : CmdWord) : Bool :=
  w &&& row.mask == row.value && (row.mnemonic != "LUTRD" || faOf w != 7)

/-! ### The host's reading of a table word -/

/-- The instruction the decoder reads from the table word `w` of `nbits` bits (a command is one 32-bit word, R60, so
bits the table does not give are 0, and a word of more than 32 bits is no command: log 13). -/
def decodeTableWord (nbits w : Nat) : Option Instr :=
  if w % 2 ^ nbits < 2 ^ 32 then
    match decode (BitVec.ofNat 32 (w % 2 ^ nbits)) with
    | .ok i => some i
    | .error _ => none
  else none

end Sys2Proof
end

