-- ==== Sys2Proof/Machine/Flags.lean ====
section
/-! DEFINITION. The flag T, the result register RES, and the words STATUS and FINFO as the host reads them
(spec/10_state.md R29 to R32). -/

namespace Sys2Proof.Machine

/-- `T <- b` (R12, R30). -/
def State.setT (s : State) (b : Bool) : State := { s with t := b }

/-- `RES <- v` for a non-negative integer, as a 64-bit value (R12, R31). -/
def State.setRes (s : State) (v : Int) : State := { s with res := BitVec.ofInt 64 v }

/-- STATUS (R29): T in bit 0, FAULT in bit 1, CAUSE in bits 15:8, zeros elsewhere. -/
def State.statusWord (s : State) : Word :=
  0#48 ++ s.cause ++ 0#6 ++ BitVec.ofBool s.fault ++ BitVec.ofBool s.t

/-- FINFO (R32): INFO in bits 31:0, SRC in bits 33:32, zeros elsewhere. -/
def State.finfoWord (s : State) : Word := 0#30 ++ s.src ++ s.info

end Sys2Proof.Machine
end

