-- ==== Sys2Proof/Machine/Pixel.lean ====
section
/-! DEFINITION. Pixel indexing and the permutation table, unit glyph_bit_permutation_lut
(spec/40_glyph_pixel_lut.md): FROMPIX, PIXVAL, ROWBYTE, LUTRD. -/

namespace Sys2Proof.Machine

/-- `BitOf(x, y) = 63 - x - 8*y`, for `x, y < 8` (R9, R80). -/
def bitOf (x y : Nat) : Nat := 63 - x - 8 * y

/-- `FromPixel(x, y)`: the glyph with exactly one bit set, that of pixel `(x, y)` (R81). -/
def fromPixel (x y : Nat) : Word := 1#64 <<< bitOf x y

/-- `Px(g, x, y)`: the pixel `(x, y)` of a glyph (R9). -/
def px (g : Word) (x y : Nat) : Bool := g.getLsbD (bitOf x y)

/-- `PixelValue(g, x, y)`, 0 or 1 (R81). -/
def pixelValue (g : Word) (x y : Nat) : Nat := (px g x y).toNat

/-- `RowByte(g, row) = g[63 - 8*row : 56 - 8*row]` (R83). -/
def rowByte (g : Word) (row : Nat) : BitVec 8 := g.extractLsb' (56 - 8 * row) 8

/-- `PERM[k][i]` with `r = i div 8`, `c = i mod 8` (R84): the source bit of destination bit `i` under transform `k`. -/
def perm (k i : Nat) : Nat :=
  let r := i / 8
  let c := i % 8
  match k with
  | 0 => i
  | 1 => 8 * (7 - r) + c
  | 2 => 8 * r + (7 - c)
  | 3 => 63 - i
  | 4 => 8 * c + r
  | 5 => 8 * (7 - c) + r
  | 6 => 8 * c + (7 - r)
  | _ => i

/-- FROMPIX gd, x, y (R86). -/
def execFrompix (gd : GReg) (x y : Nibble) (s : State) : Host.Outcome State Fault Refusal :=
  complete (encode (.frompix gd x y)) s <|
    require (InRange x ∧ InRange y) .operandRange <|
    .ok (s.setG gd (fromPixel x.toNat y.toNat))

/-- PIXVAL gs, x, y (R87). -/
def execPixval (gs : GReg) (x y : Nibble) (s : State) : Host.Outcome State Fault Refusal :=
  complete (encode (.pixval gs x y)) s <|
    require (InRange x ∧ InRange y) .operandRange <|
    .ok (s.setRes (pixelValue (s.G gs) x.toNat y.toNat))

/-- ROWBYTE gs, row (R88). -/
def execRowbyte (gs : GReg) (row : Nibble) (s : State) : Host.Outcome State Fault Refusal :=
  complete (encode (.rowbyte gs row)) s <|
    require (InRange row) .operandRange <|
    .ok (s.setRes (rowByte (s.G gs) row.toNat).toNat)

/-- LUTRD k, i (R89). The first test cannot fail on a decoded word: step 3 of R66 refuses `k ≥ 7`. -/
def execLutrd (k : Nibble) (i : BitVec 8) (s : State) : Host.Outcome State Fault Refusal :=
  complete (encode (.lutrd k i)) s <|
    require (k.toNat < 7) .illegalCmd <|
    require (InLut i) .operandRange <|
    .ok (s.setRes (perm k.toNat i.toNat))

end Sys2Proof.Machine
end

