-- ==== Sys2Proof/Machine/CanvasOps.lean ====
section
/-! DEFINITION. The predicates and shared operations of the canvas commands: WF and IsNull (spec/10_state.md R27, R28),
Fits (spec/20_memory.md R45), cells and pixels (spec/47_canvas.md R176, R177), Plot (R192) and the line stepper (R196). -/

namespace Sys2Proof.Machine

/-- `WF(c)` (R27). -/
abbrev Canvas.WF (c : Canvas) : Prop :=
  0 ≤ c.width.toInt ∧ 0 ≤ c.height.toInt ∧ 0 ≤ c.stride.toInt ∧
  (c.v = false ↔ c.width.toInt = 0 ∧ c.height.toInt = 0)

/-- `IsNull(c)` (R28). -/
abbrev Canvas.IsNull (c : Canvas) : Prop := c.v = false ∨ c.width.toInt ≤ 0 ∨ c.height.toInt ≤ 0

/-- `InCells(c, x, y)` (R176). -/
abbrev Canvas.InCells (c : Canvas) (x y : Int) : Prop :=
  (0 ≤ x ∧ x < c.width.toInt) ∧ (0 ≤ y ∧ y < c.height.toInt)

/-- `InPixels(c, px, py)` (R176). -/
abbrev Canvas.InPixels (c : Canvas) (x y : Int) : Prop :=
  (0 ≤ x ∧ x < 8 * c.width.toInt) ∧ (0 ≤ y ∧ y < 8 * c.height.toInt)

/-- `CellAddr(c, x, y) = c.base + x + y * c.stride`, unbounded (R177). -/
def Canvas.cellAddr (c : Canvas) (x y : Int) : Int := c.base.toNat + x + y * c.stride.toInt

/-- `Fits(c)` in a memory of `words` words (R45). -/
abbrev Canvas.Fits (c : Canvas) (words : Nat) : Prop :=
  c.IsNull ∨ c.base.toNat + (c.height.toInt - 1) * c.stride.toInt + (c.width.toInt - 1) < words

/-- The addresses of the cells in the order of CFILL: row by row, left to right (R191). -/
def Canvas.cellAddrs (c : Canvas) : List Int :=
  (List.range c.height.toInt.toNat).flatMap fun (y : Nat) =>
    (List.range c.width.toInt.toNat).map fun (x : Nat) => c.cellAddr x y

/-- The validity condition of the unchecked primitives (R180). -/
abbrev Canvas.Reaches (c : Canvas) (x y : Int) : Prop := ¬(c.IsNull ∨ ¬c.InCells x y)

/-- `Plot(c, px, py)` (R192): OR the pixel into its cell when it lies inside the canvas. -/
def State.plot (s : State) (c : Canvas) (x y : Int) : Except Cause (Bool × State) :=
  if c.InPixels x y then
    match s.loadWord (c.cellAddr (x / 8) (y / 8)) with
    | .error k => .error k
    | .ok v =>
      match s.storeWord (c.cellAddr (x / 8) (y / 8)) (v ||| fromPixel (x % 8).toNat (y % 8).toNat) with
      | .error k => .error k
      | .ok s' => .ok (true, s')
  else .ok (false, s)

/-- `Plot` of each point of a list in order, results ignored (R197). -/
def State.plotAll (s : State) (c : Canvas) : List (Int × Int) → Effect
  | [] => .ok s
  | p :: ps =>
    match s.plot c p.1 p.2 with
    | .error k => .error k
    | .ok (_, s') => s'.plotAll c ps

/-- The loop of the reference stepper (R196), at most `fuel` moves: `dx`, `dy`, `sx`, `sy` are the rule's, both tests use
the same `e2 = 2 * err`. -/
def lineFrom (x1 y1 dx dy sx sy : Int) : Nat → Int → Int → Int → List (Int × Int)
  | 0, x, y, _ => [(x, y)]
  | fuel + 1, x, y, err =>
    if x = x1 ∧ y = y1 then [(x, y)]
    else
      (x, y) :: lineFrom x1 y1 dx dy sx sy fuel
        (if 2 * err ≥ dy then x + sx else x)
        (if 2 * err ≤ dx then y + sy else y)
        (err + (if 2 * err ≥ dy then dy else 0) + (if 2 * err ≤ dx then dx else 0))

/-- `LineSeq(x0, y0, x1, y1)` (R195, R196; log 7): the loop returns after `max(|x1 - x0|, |y1 - y0|)` moves. -/
def lineSeq (x0 y0 x1 y1 : Int) : List (Int × Int) :=
  let dx : Int := (x1 - x0).natAbs
  let dy : Int := -(y1 - y0).natAbs
  lineFrom x1 y1 dx dy (if x0 < x1 then 1 else -1) (if y0 < y1 then 1 else -1)
    (max (x1 - x0).natAbs (y1 - y0).natAbs) x0 y0 (dx + dy)

end Sys2Proof.Machine
end

