-- ==== Sys2Proof/Machine/RectClip.lean ====
section
/-! DEFINITION. Rectangle geometry, unit canvas_rect_clipper (spec/46_rect_clipper.md): RNORM, RTOABS, RTOREG, RCLIP,
and `Clip`, which CCROP also uses. -/

namespace Sys2Proof.Machine

/-- `normalize(r)` on the regular encoding (R162). -/
def normalizeRect (q : IRect) : IRect :=
  { x := if q.w < 0 then q.x + q.w else q.x
    y := if q.h < 0 then q.y + q.h else q.y
    w := if q.w < 0 then -q.w else q.w
    h := if q.h < 0 then -q.h else q.h }

/-- `toAbsolute` (R163). -/
def toAbsolute (q : IRect) : IRect := ⟨q.x, q.y, q.x + q.w, q.y + q.h⟩

/-- `toRegular`: the source's third and fourth field are `x1` and `y1` (R164). -/
def toRegular (q : IRect) : IRect := ⟨q.x, q.y, q.w - q.x, q.h - q.y⟩

/-- The normalized absolute form `(xa, ya, xb, yb)` of a regular rectangle (R166). -/
def absNormal (q : IRect) : IRect :=
  ⟨min q.x (q.x + q.w), min q.y (q.y + q.h), max q.x (q.x + q.w), max q.y (q.y + q.h)⟩

/-- R166's `outside`, on the normalized absolute form: bounds non-positive, rectangle fully outside, or zero area. -/
abbrev Outside (a : IRect) (W H : Int) : Prop :=
  (W ≤ 0 ∨ H ≤ 0) ∨ (a.w ≤ 0 ∨ a.x ≥ W) ∨ (a.h ≤ 0 ∨ a.y ≥ H) ∨ (a.x = a.w ∨ a.y = a.h)

/-- R166's true result: clamp the four absolute coordinates, back to the regular encoding. -/
def clamped (a : IRect) (W H : Int) : IRect :=
  ⟨clampInt a.x 0 W, clampInt a.y 0 H, clampInt a.w 0 W - clampInt a.x 0 W, clampInt a.h 0 H - clampInt a.y 0 H⟩

/-- `Clip(r, W, H)` (R166): INT_OVERFLOW, or the boolean and the rectangle, absolute when it is false. -/
def clip (q : IRect) (W H : Int) : Except Cause (Bool × IRect) :=
  if InI32 (q.x + q.w) ∧ InI32 (q.y + q.h) then
    if Outside (absNormal q) W H then .ok (false, absNormal q)
    else .ok (true, clamped (absNormal q) W H)
  else .error .intOverflow

/-- RNORM rd, rs (R162). -/
def execRnorm (rd rs : RReg) (s : State) : Host.Outcome State Fault Refusal :=
  complete (encode (.rnorm rd rs)) s (s.putRect rd (normalizeRect (s.rect rs)))

/-- RTOABS rd, rs (R163). -/
def execRtoabs (rd rs : RReg) (s : State) : Host.Outcome State Fault Refusal :=
  complete (encode (.rtoabs rd rs)) s (s.putRect rd (toAbsolute (s.rect rs)))

/-- RTOREG rd, rs (R164). -/
def execRtoreg (rd rs : RReg) (s : State) : Host.Outcome State Fault Refusal :=
  complete (encode (.rtoreg rd rs)) s (s.putRect rd (toRegular (s.rect rs)))

/-- RCLIP rd, rs, rb (R167): the bounds are the fields `w` and `h` of `R[rb]`. -/
def execRclip (rd rs rb : RReg) (s : State) : Host.Outcome State Fault Refusal :=
  complete (encode (.rclip rd rs rb)) s <|
    match clip (s.rect rs) (s.rect rb).w (s.rect rb).h with
    | .ok (ok, q) => .ok ((s.setR rd q.toRect).setT ok)
    | .error k => .error k

end Sys2Proof.Machine
end

