-- ==== Sys2Proof/Machine/CanvasCmd.lean ====
section
/-! DEFINITION. Canvas addressing, access, crop, fill, plot and line, unit canvas_strided_address_gen
(spec/47_canvas.md). Each meaning lists the tests of its rule in their order (R181): BAD_CANVAS, INT_OVERFLOW,
CANVAS_BOUNDS, MEM_RANGE. -/

namespace Sys2Proof.Machine

/-- CADDR cs, rr (R182): no `Fits` test, the address may lie beyond MEM. -/
def execCaddr (cs : CReg) (rr : RReg) (s : State) : Host.Outcome State Fault Refusal :=
  let c := s.C cs
  let p := s.rect rr
  complete (encode (.caddr cs rr)) s <|
    require c.WF .badCanvas <|
    require (c.Reaches p.x p.y) .canvasBounds <|
    .ok (s.setRes (c.cellAddr p.x p.y))

/-- CLDG gd, cs, rr (R183). -/
def execCldg (gd : GReg) (cs : CReg) (rr : RReg) (s : State) : Host.Outcome State Fault Refusal :=
  let c := s.C cs
  let p := s.rect rr
  complete (encode (.cldg gd cs rr)) s <|
    require c.WF .badCanvas <|
    require (c.Reaches p.x p.y) .canvasBounds <|
    require (c.Fits s.mem.words) .memRange <|
    match s.loadWord (c.cellAddr p.x p.y) with
    | .ok v => .ok (s.setG gd v)
    | .error k => .error k

/-- CSTG gs, cs, rr (R184). -/
def execCstg (gs : GReg) (cs : CReg) (rr : RReg) (s : State) : Host.Outcome State Fault Refusal :=
  let c := s.C cs
  let p := s.rect rr
  complete (encode (.cstg gs cs rr)) s <|
    require c.WF .badCanvas <|
    require (c.Reaches p.x p.y) .canvasBounds <|
    require (c.Fits s.mem.words) .memRange <|
    s.storeWord (c.cellAddr p.x p.y) (s.G gs)

/-- CAT gd, cs, rr (R185): 0 and T = 0 on a null canvas or out of bounds. -/
def execCat (gd : GReg) (cs : CReg) (rr : RReg) (s : State) : Host.Outcome State Fault Refusal :=
  let c := s.C cs
  let p := s.rect rr
  complete (encode (.cat gd cs rr)) s <|
    require c.WF .badCanvas <|
    require (c.Fits s.mem.words) .memRange <|
    if c.IsNull ∨ ¬c.InCells p.x p.y then .ok ((s.setG gd 0).setT false)
    else
      match s.loadWord (c.cellAddr p.x p.y) with
      | .ok v => .ok ((s.setG gd v).setT true)
      | .error k => .error k

/-- CPUT gs, cs, rr (R186). -/
def execCput (gs : GReg) (cs : CReg) (rr : RReg) (s : State) : Host.Outcome State Fault Refusal :=
  let c := s.C cs
  let p := s.rect rr
  complete (encode (.cput gs cs rr)) s <|
    require c.WF .badCanvas <|
    require (c.Fits s.mem.words) .memRange <|
    if c.IsNull ∨ ¬c.InCells p.x p.y then .ok (s.setT false)
    else
      match s.storeWord (c.cellAddr p.x p.y) (s.G gs) with
      | .ok s' => .ok (s'.setT true)
      | .error k => .error k

/-- CISNULL cs (R187). -/
def execCisnull (cs : CReg) (s : State) : Host.Outcome State Fault Refusal :=
  let c := s.C cs
  complete (encode (.cisnull cs)) s <|
    require c.WF .badCanvas <|
    .ok (s.setT (decide c.IsNull))

/-- CCROP cd, cs, rr (R190): NULLC when the clip is false, else a view of the same words with the parent's stride. -/
def execCcrop (cd cs : CReg) (rr : RReg) (s : State) : Host.Outcome State Fault Refusal :=
  let c := s.C cs
  complete (encode (.ccrop cd cs rr)) s <|
    require c.WF .badCanvas <|
    match clip (s.rect rr) c.width.toInt c.height.toInt with
    | .error k => .error k
    | .ok (false, _) => .ok ((s.setC cd Canvas.null).setT false)
    | .ok (true, q) =>
      require (c.cellAddr q.x q.y < 2 ^ 32) .intOverflow <|
      .ok ((s.setC cd
        { v := true, base := BitVec.ofInt 32 (c.cellAddr q.x q.y), width := BitVec.ofInt 32 q.w,
          height := BitVec.ofInt 32 q.h, stride := c.stride }).setT true)

/-- CFILL cs, gs (R191). -/
def execCfill (cs : CReg) (gs : GReg) (s : State) : Host.Outcome State Fault Refusal :=
  let c := s.C cs
  complete (encode (.cfill cs gs)) s <|
    require c.WF .badCanvas <|
    require (c.Fits s.mem.words) .memRange <|
    s.storeAll (s.G gs) c.cellAddrs

/-- CPLOT cs, rr (R193). -/
def execCplot (cs : CReg) (rr : RReg) (s : State) : Host.Outcome State Fault Refusal :=
  let c := s.C cs
  let p := s.rect rr
  complete (encode (.cplot cs rr)) s <|
    require c.WF .badCanvas <|
    require (c.Fits s.mem.words) .memRange <|
    match s.plot c p.x p.y with
    | .ok (b, s') => .ok (s'.setT b)
    | .error k => .error k

/-- CLINE cs, rr (R197): `R[rr]` is read as two points, the absolute encoding. -/
def execCline (cs : CReg) (rr : RReg) (s : State) : Host.Outcome State Fault Refusal :=
  let c := s.C cs
  let p := s.rect rr
  complete (encode (.cline cs rr)) s <|
    require c.WF .badCanvas <|
    require (c.Fits s.mem.words) .memRange <|
    s.plotAll c (lineSeq p.x p.y p.w p.h)

end Sys2Proof.Machine
end

