-- ==== Sys2Proof/Machine/Compose.lean ====
section
/-! DEFINITION. Quadrant masks and composition from quadrants, unit glyph_merge_masked part 1
(spec/41_glyph_compose.md): GMASK, GLYPH4, TALLHALF2, WIDEHALF2. -/

namespace Sys2Proof.Machine

/-- The union of the quadrant masks selected by the set `m` (R100, R102). -/
def quadrantMask (m : Nibble) : Word :=
  (if m.getLsbD 0 then 0xF0F0F0F000000000 else 0) ||| (if m.getLsbD 1 then 0x0F0F0F0F00000000 else 0) |||
  (if m.getLsbD 2 then 0x00000000F0F0F0F0 else 0) ||| (if m.getLsbD 3 then 0x000000000F0F0F0F else 0)

/-- `Nib(q, j)`: the 4-bit row `j` of a quadrant, `j = 0 .. 3` (R103). -/
def quadRow (q : Quadrant) (j : Nat) : BitVec 4 := q.extractLsb' (12 - 4 * j) 4

/-- `widehalf2(left, right)`: the rows of two quadrants side by side (R105). -/
def wideHalf (left right : Quadrant) : Half :=
  quadRow left 0 ++ quadRow right 0 ++ quadRow left 1 ++ quadRow right 1 ++
  quadRow left 2 ++ quadRow right 2 ++ quadRow left 3 ++ quadRow right 3

/-- `tallhalf2(top, bottom)`: the top quadrant is the high 16 bits (R104). -/
def tallHalf (top bottom : Quadrant) : Half := top ++ bottom

/-- `glyph4(tl, tr, bl, br)` (R103): rows 0 to 3 from the top quadrants, rows 4 to 7 from the bottom ones. -/
def glyph4 (tl tr bl br : Quadrant) : Word := wideHalf tl tr ++ wideHalf bl br

/-- GMASK gd, m (R102). -/
def execGmask (gd : GReg) (m : Nibble) (s : State) : Host.Outcome State Fault Refusal :=
  complete (encode (.gmask gd m)) s <| .ok (s.setG gd (quadrantMask m))

/-- GLYPH4 gd, g1, g2, g3, g4 (R103). -/
def execGlyph4 (gd g1 g2 g3 g4 : GReg) (s : State) : Host.Outcome State Fault Refusal :=
  complete (encode (.glyph4 gd g1 g2 g3 g4)) s <|
    .ok (s.setG gd (glyph4 (s.quad g1) (s.quad g2) (s.quad g3) (s.quad g4)))

/-- TALLHALF2 gd, g1, g2 (R104). -/
def execTallhalf2 (gd g1 g2 : GReg) (s : State) : Host.Outcome State Fault Refusal :=
  complete (encode (.tallhalf2 gd g1 g2)) s <| .ok (s.setG gd (halfWord (tallHalf (s.quad g1) (s.quad g2))))

/-- WIDEHALF2 gd, g1, g2 (R105). -/
def execWidehalf2 (gd g1 g2 : GReg) (s : State) : Host.Outcome State Fault Refusal :=
  complete (encode (.widehalf2 gd g1 g2)) s <| .ok (s.setG gd (halfWord (wideHalf (s.quad g1) (s.quad g2))))

end Sys2Proof.Machine
end

