-- ==== Sys2Proof/Machine/Measure.lean ====
section
/-! DEFINITION. Margins, width and height, unit glyph_merge_masked part 2 (spec/43_glyph_measure.md): MTOP, MBOT,
MLEFT, MRIGHT, GWIDTH, GHEIGHT. -/

namespace Sys2Proof.Machine

/-- The number of zero bits of `v` at positions `n - 1`, `n - 2`, ... above the first one bit. -/
def leadingZeros {w : Nat} (v : BitVec w) : Nat → Nat
  | 0 => 0
  | n + 1 => if v.getLsbD n then 0 else 1 + leadingZeros v n

/-- The number of zero bits of `v` at positions `i`, `i + 1`, ... below the first one bit, at most `fuel`. -/
def trailingZeros {w : Nat} (v : BitVec w) : Nat → Nat → Nat
  | 0, _ => 0
  | fuel + 1, i => if v.getLsbD i then 0 else 1 + trailingZeros v fuel (i + 1)

/-- `clz64` and `clz8`: zero bits above the most significant one bit; the width for 0 (R11). -/
def clz {w : Nat} (v : BitVec w) : Nat := leadingZeros v w

/-- `ctz64` and `ctz8`: zero bits below the least significant one bit; the width for 0 (R11). -/
def ctz {w : Nat} (v : BitVec w) : Nat := trailingZeros v w 0

/-- `RowOr(g)`: the OR of the eight row bytes (R130). -/
def rowOr (g : Word) : BitVec 8 :=
  rowByte g 0 ||| rowByte g 1 ||| rowByte g 2 ||| rowByte g 3 |||
  rowByte g 4 ||| rowByte g 5 ||| rowByte g 6 ||| rowByte g 7

/-- `MarginTop(g)` (R130). -/
def marginTop (g : Word) : Nat := clz g / 8
/-- `MarginBottom(g)` (R130). -/
def marginBottom (g : Word) : Nat := ctz g / 8
/-- `MarginLeft(g)` (R130). -/
def marginLeft (g : Word) : Nat := clz (rowOr g)
/-- `MarginRight(g)` (R130). -/
def marginRight (g : Word) : Nat := ctz (rowOr g)

/-- `Width(g)`, 0 for the empty glyph (R139). -/
def glyphWidth (g : Word) : Nat := if g = 0 then 0 else 8 - marginLeft g - marginRight g
/-- `Height(g)`, 0 for the empty glyph (R139). -/
def glyphHeight (g : Word) : Nat := if g = 0 then 0 else 8 - marginTop g - marginBottom g

/-- MTOP gs (R132). -/
def execMtop (gs : GReg) (s : State) : Host.Outcome State Fault Refusal :=
  complete (encode (.mtop gs)) s <| .ok (s.setRes (marginTop (s.G gs)))

/-- MBOT gs (R133). -/
def execMbot (gs : GReg) (s : State) : Host.Outcome State Fault Refusal :=
  complete (encode (.mbot gs)) s <| .ok (s.setRes (marginBottom (s.G gs)))

/-- MLEFT gs (R134). -/
def execMleft (gs : GReg) (s : State) : Host.Outcome State Fault Refusal :=
  complete (encode (.mleft gs)) s <| .ok (s.setRes (marginLeft (s.G gs)))

/-- MRIGHT gs (R135). -/
def execMright (gs : GReg) (s : State) : Host.Outcome State Fault Refusal :=
  complete (encode (.mright gs)) s <| .ok (s.setRes (marginRight (s.G gs)))

/-- GWIDTH gs (R136). -/
def execGwidth (gs : GReg) (s : State) : Host.Outcome State Fault Refusal :=
  complete (encode (.gwidth gs)) s <| .ok (s.setRes (glyphWidth (s.G gs)))

/-- GHEIGHT gs (R137). -/
def execGheight (gs : GReg) (s : State) : Host.Outcome State Fault Refusal :=
  complete (encode (.gheight gs)) s <| .ok (s.setRes (glyphHeight (s.G gs)))

end Sys2Proof.Machine
end

