-- ==== Sys2Proof/Machine/Merge.lean ====
section
/-! DEFINITION. The masked merge, unit glyph_merge_masked part 3 (spec/44_glyph_merge.md): GMERGE. -/

namespace Sys2Proof.Machine

/-- `Merge(a, b, m) = a ^ ((a ^ b) & m)` (R140). -/
def merge (a b m : Word) : Word := a ^^^ ((a ^^^ b) &&& m)

/-- GMERGE gd, ga, gb, gm (R141). -/
def execGmerge (gd ga gb gm : GReg) (s : State) : Host.Outcome State Fault Refusal :=
  complete (encode (.gmerge gd ga gb gm)) s <| .ok (s.setG gd (merge (s.G ga) (s.G gb) (s.G gm)))

end Sys2Proof.Machine
end

