-- ==== Sys2Proof/Machine/Shift.lean ====
section
/-! DEFINITION. Shift and cycle, unit glyph_merge_masked part 4 (spec/45_glyph_shift.md): GSHL, GSHR, GSHU, GSHD, GCYL,
GCYR, GCYU, GCYD. The functions are the 64-bit formulas of R146, for `n ≤ 7`. -/

namespace Sys2Proof.Machine

/-- `Rep8(b)`: all eight bytes equal to the byte `b` (R146). -/
def rep8 (b : Word) : Word := b * 0x0101010101010101

/-- `ShL(g, n)`. -/
def shL (g : Word) (n : Nat) : Word := (g <<< n) &&& rep8 ((0xFF#64 <<< n) &&& 0xFF#64)
/-- `ShR(g, n)`. -/
def shR (g : Word) (n : Nat) : Word := (g >>> n) &&& rep8 (0xFF#64 >>> n)
/-- `ShU(g, n)`. -/
def shU (g : Word) (n : Nat) : Word := g <<< (8 * n)
/-- `ShD(g, n)`. -/
def shD (g : Word) (n : Nat) : Word := g >>> (8 * n)
/-- `CyL(g, n)`. -/
def cyL (g : Word) (n : Nat) : Word := if n = 0 then g else shL g n ||| shR g (8 - n)
/-- `CyR(g, n)`. -/
def cyR (g : Word) (n : Nat) : Word := if n = 0 then g else shR g n ||| shL g (8 - n)
/-- `CyU(g, n) = rotl64(g, 8*n)`. -/
def cyU (g : Word) (n : Nat) : Word := g.rotateLeft (8 * n)
/-- `CyD(g, n) = rotr64(g, 8*n)`. -/
def cyD (g : Word) (n : Nat) : Word := g.rotateRight (8 * n)

/-- The shape of the eight commands: `if n > 7 then raise Fault(OPERAND_RANGE); G[gd] <- Fn(G[gs], n)`. -/
def shiftEffect (fn : Word → Nat → Word) (gd gs : GReg) (n : Nibble) (s : State) : Effect :=
  require (InRange n) .operandRange <| .ok (s.setG gd (fn (s.G gs) n.toNat))

/-- GSHL gd, gs, n (R147). -/
def execGshl (gd gs : GReg) (n : Nibble) (s : State) : Host.Outcome State Fault Refusal :=
  complete (encode (.gshl gd gs n)) s (shiftEffect shL gd gs n s)

/-- GSHR gd, gs, n (R148). -/
def execGshr (gd gs : GReg) (n : Nibble) (s : State) : Host.Outcome State Fault Refusal :=
  complete (encode (.gshr gd gs n)) s (shiftEffect shR gd gs n s)

/-- GSHU gd, gs, n (R149). -/
def execGshu (gd gs : GReg) (n : Nibble) (s : State) : Host.Outcome State Fault Refusal :=
  complete (encode (.gshu gd gs n)) s (shiftEffect shU gd gs n s)

/-- GSHD gd, gs, n (R150). -/
def execGshd (gd gs : GReg) (n : Nibble) (s : State) : Host.Outcome State Fault Refusal :=
  complete (encode (.gshd gd gs n)) s (shiftEffect shD gd gs n s)

/-- GCYL gd, gs, n (R151). -/
def execGcyl (gd gs : GReg) (n : Nibble) (s : State) : Host.Outcome State Fault Refusal :=
  complete (encode (.gcyl gd gs n)) s (shiftEffect cyL gd gs n s)

/-- GCYR gd, gs, n (R152). -/
def execGcyr (gd gs : GReg) (n : Nibble) (s : State) : Host.Outcome State Fault Refusal :=
  complete (encode (.gcyr gd gs n)) s (shiftEffect cyR gd gs n s)

/-- GCYU gd, gs, n (R153). -/
def execGcyu (gd gs : GReg) (n : Nibble) (s : State) : Host.Outcome State Fault Refusal :=
  complete (encode (.gcyu gd gs n)) s (shiftEffect cyU gd gs n s)

/-- GCYD gd, gs, n (R154). -/
def execGcyd (gd gs : GReg) (n : Nibble) (s : State) : Host.Outcome State Fault Refusal :=
  complete (encode (.gcyd gd gs n)) s (shiftEffect cyD gd gs n s)

end Sys2Proof.Machine
end

