-- ==== Sys2Proof/Machine/System.lean ====
section
/-! DEFINITION. NOP (spec/47_canvas.md R199), the one command that belongs to no unit. -/

namespace Sys2Proof.Machine

/-- NOP (R199): changes no state. -/
def execNop (s : State) : Host.Outcome State Fault Refusal :=
  complete (encode .nop) s (.ok s)

end Sys2Proof.Machine
end

