-- ==== Sys2Proof/Machine/Transform.lean ====
section
/-! DEFINITION. Mirror, transpose and rotate, units glyph_mirror, glyph_transpose and glyph_rotator
(spec/42_glyph_transform.md): GMOV, GFLIP, GMIRROR, GTRANSP, GROT90, GROT180, GROT270. The transforms are the swap
networks of R110 to R112; that they are the pixel maps of the same rules is an obligation (R122). -/

namespace Sys2Proof.Machine

/-- `Flip(g)` (R110): swap 32-bit halves, 16-bit groups, 8-bit rows. -/
def glyphFlip (g : Word) : Word :=
  let a := (g >>> 32) ||| (g <<< 32)
  let b := ((a &&& 0xFFFF0000FFFF0000) >>> 16) ||| ((a &&& 0x0000FFFF0000FFFF) <<< 16)
  ((b &&& 0xFF00FF00FF00FF00) >>> 8) ||| ((b &&& 0x00FF00FF00FF00FF) <<< 8)

/-- `Mirror(g)` (R111): swap nibbles, 2-bit groups, bits of each byte. -/
def glyphMirror (g : Word) : Word :=
  let a := ((g &&& 0xF0F0F0F0F0F0F0F0) >>> 4) ||| ((g &&& 0x0F0F0F0F0F0F0F0F) <<< 4)
  let b := ((a &&& 0xCCCCCCCCCCCCCCCC) >>> 2) ||| ((a &&& 0x3333333333333333) <<< 2)
  ((b &&& 0xAAAAAAAAAAAAAAAA) >>> 1) ||| ((b &&& 0x5555555555555555) <<< 1)

/-- `Transpose(g)` (R112), stages 7, 14, 28. The masks are the spec's own, from general knowledge (K1; log 8). -/
def glyphTranspose (g : Word) : Word :=
  let a := (g &&& 0xAA55AA55AA55AA55) ||| ((g &&& 0x00AA00AA00AA00AA) <<< 7) ||| ((g >>> 7) &&& 0x00AA00AA00AA00AA)
  let b := (a &&& 0xCCCC3333CCCC3333) ||| ((a &&& 0x0000CCCC0000CCCC) <<< 14) ||| ((a >>> 14) &&& 0x0000CCCC0000CCCC)
  (b &&& 0xF0F0F0F00F0F0F0F) ||| ((b &&& 0x00000000F0F0F0F0) <<< 28) ||| ((b >>> 28) &&& 0x00000000F0F0F0F0)

/-- `XF(k, g)` (R113): flip, mirror, transpose in that order, stage `j` applied when bit `j` of `k` is 1. -/
def xf (k : BitVec 3) (g : Word) : Word :=
  let t1 := if k.getLsbD 0 then glyphFlip g else g
  let t2 := if k.getLsbD 1 then glyphMirror t1 else t1
  if k.getLsbD 2 then glyphTranspose t2 else t2

/-- GMOV gd, gs (R114, k = 0). -/
def execGmov (gd gs : GReg) (s : State) : Host.Outcome State Fault Refusal :=
  complete (encode (.gmov gd gs)) s <| .ok (s.setG gd (xf 0 (s.G gs)))

/-- GFLIP gd, gs (R115, k = 1). -/
def execGflip (gd gs : GReg) (s : State) : Host.Outcome State Fault Refusal :=
  complete (encode (.gflip gd gs)) s <| .ok (s.setG gd (xf 1 (s.G gs)))

/-- GMIRROR gd, gs (R116, k = 2). -/
def execGmirror (gd gs : GReg) (s : State) : Host.Outcome State Fault Refusal :=
  complete (encode (.gmirror gd gs)) s <| .ok (s.setG gd (xf 2 (s.G gs)))

/-- GROT180 gd, gs (R119, k = 3). -/
def execGrot180 (gd gs : GReg) (s : State) : Host.Outcome State Fault Refusal :=
  complete (encode (.grot180 gd gs)) s <| .ok (s.setG gd (xf 3 (s.G gs)))

/-- GTRANSP gd, gs (R117, k = 4). -/
def execGtransp (gd gs : GReg) (s : State) : Host.Outcome State Fault Refusal :=
  complete (encode (.gtransp gd gs)) s <| .ok (s.setG gd (xf 4 (s.G gs)))

/-- GROT270 gd, gs (R120, k = 5). -/
def execGrot270 (gd gs : GReg) (s : State) : Host.Outcome State Fault Refusal :=
  complete (encode (.grot270 gd gs)) s <| .ok (s.setG gd (xf 5 (s.G gs)))

/-- GROT90 gd, gs (R118, k = 6). -/
def execGrot90 (gd gs : GReg) (s : State) : Host.Outcome State Fault Refusal :=
  complete (encode (.grot90 gd gs)) s <| .ok (s.setG gd (xf 6 (s.G gs)))

end Sys2Proof.Machine
end

