-- ==== Sys2Proof/Machine/Dispatch.lean ====
section
/-! DEFINITION. One arm per command: its meaning. -/

namespace Sys2Proof.Machine

def exec (i : Instr) (s : State) : Host.Outcome State Fault Refusal :=
  match i with
  | .nop => Sys2Proof.Machine.execNop s
  | .frompix gd x y => Sys2Proof.Machine.execFrompix gd x y s
  | .pixval gs x y => Sys2Proof.Machine.execPixval gs x y s
  | .rowbyte gs row => Sys2Proof.Machine.execRowbyte gs row s
  | .lutrd k n => Sys2Proof.Machine.execLutrd k n s
  | .gmask gd m => Sys2Proof.Machine.execGmask gd m s
  | .glyph4 gd g1 g2 g3 g4 => Sys2Proof.Machine.execGlyph4 gd g1 g2 g3 g4 s
  | .tallhalf2 gd g1 g2 => Sys2Proof.Machine.execTallhalf2 gd g1 g2 s
  | .widehalf2 gd g1 g2 => Sys2Proof.Machine.execWidehalf2 gd g1 g2 s
  | .gmov gd gs => Sys2Proof.Machine.execGmov gd gs s
  | .gflip gd gs => Sys2Proof.Machine.execGflip gd gs s
  | .gmirror gd gs => Sys2Proof.Machine.execGmirror gd gs s
  | .grot180 gd gs => Sys2Proof.Machine.execGrot180 gd gs s
  | .gtransp gd gs => Sys2Proof.Machine.execGtransp gd gs s
  | .grot270 gd gs => Sys2Proof.Machine.execGrot270 gd gs s
  | .grot90 gd gs => Sys2Proof.Machine.execGrot90 gd gs s
  | .mtop gs => Sys2Proof.Machine.execMtop gs s
  | .mbot gs => Sys2Proof.Machine.execMbot gs s
  | .mleft gs => Sys2Proof.Machine.execMleft gs s
  | .mright gs => Sys2Proof.Machine.execMright gs s
  | .gwidth gs => Sys2Proof.Machine.execGwidth gs s
  | .gheight gs => Sys2Proof.Machine.execGheight gs s
  | .gmerge gd ga gb gm => Sys2Proof.Machine.execGmerge gd ga gb gm s
  | .gshl gd gs n => Sys2Proof.Machine.execGshl gd gs n s
  | .gshr gd gs n => Sys2Proof.Machine.execGshr gd gs n s
  | .gshu gd gs n => Sys2Proof.Machine.execGshu gd gs n s
  | .gshd gd gs n => Sys2Proof.Machine.execGshd gd gs n s
  | .gcyl gd gs n => Sys2Proof.Machine.execGcyl gd gs n s
  | .gcyr gd gs n => Sys2Proof.Machine.execGcyr gd gs n s
  | .gcyu gd gs n => Sys2Proof.Machine.execGcyu gd gs n s
  | .gcyd gd gs n => Sys2Proof.Machine.execGcyd gd gs n s
  | .rnorm rd rs => Sys2Proof.Machine.execRnorm rd rs s
  | .rtoabs rd rs => Sys2Proof.Machine.execRtoabs rd rs s
  | .rtoreg rd rs => Sys2Proof.Machine.execRtoreg rd rs s
  | .rclip rd rs rb => Sys2Proof.Machine.execRclip rd rs rb s
  | .caddr cs rr => Sys2Proof.Machine.execCaddr cs rr s
  | .cldg gd cs rr => Sys2Proof.Machine.execCldg gd cs rr s
  | .cstg gs cs rr => Sys2Proof.Machine.execCstg gs cs rr s
  | .cat gd cs rr => Sys2Proof.Machine.execCat gd cs rr s
  | .cput gs cs rr => Sys2Proof.Machine.execCput gs cs rr s
  | .cisnull cs => Sys2Proof.Machine.execCisnull cs s
  | .ccrop cd cs rr => Sys2Proof.Machine.execCcrop cd cs rr s
  | .cfill cs gs => Sys2Proof.Machine.execCfill cs gs s
  | .cplot cs rr => Sys2Proof.Machine.execCplot cs rr s
  | .cline cs rr => Sys2Proof.Machine.execCline cs rr s

end Sys2Proof.Machine
end

