-- ==== Sys2Proof/Machine/HostPort.lean ====
section
/-! DEFINITION. The host's register and memory transactions (spec/10_state.md R34 to R37, spec/20_memory.md R48,
spec/60_exceptions.md R206). -/

namespace Sys2Proof.Machine

/-- The four fields of a rectangle register, in the order of their register numbers (R34). -/
inductive RectField where
  | x | y | w | h
  deriving DecidableEq, Repr

/-- The four words of a canvas register, in the order of their register numbers (R34). -/
inductive CanvasField where
  | ptr | width | height | stride
  deriving DecidableEq, Repr

/-- What a mapped register number names (R34). -/
inductive HostReg where
  | g (i : GReg)
  | r (i : RReg) (f : RectField)
  | c (i : CReg) (f : CanvasField)
  | status
  | res
  | finfo
  deriving DecidableEq, Repr

/-- Field `n mod 4` of a rectangle register (R34). -/
def rectFieldOf (n : Nat) : RectField :=
  match n % 4 with
  | 0 => .x
  | 1 => .y
  | 2 => .w
  | _ => .h

/-- Field `n mod 4` of a canvas register (R34). -/
def canvasFieldOf (n : Nat) : CanvasField :=
  match n % 4 with
  | 0 => .ptr
  | 1 => .width
  | 2 => .height
  | _ => .stride

/-- The register map (R34): `none` for the unmapped numbers 0x08..0x0F and 0x33..0xFF. -/
def hostReg (n : BitVec 8) : Option HostReg :=
  if h : n.toNat < 8 then some (.g ⟨n.toNat, h⟩)
  else if n.toNat < 0x10 then none
  else if n.toNat < 0x20 then some (.r (Fin.ofNat 4 ((n.toNat - 0x10) / 4)) (rectFieldOf n.toNat))
  else if n.toNat < 0x30 then some (.c (Fin.ofNat 4 ((n.toNat - 0x20) / 4)) (canvasFieldOf n.toNat))
  else if n.toNat = 0x30 then some .status
  else if n.toNat = 0x31 then some .res
  else if n.toNat = 0x32 then some .finfo
  else none

/-- The value of a field of a rectangle register. -/
def Rect.get (q : Rect) : RectField → I32
  | .x => q.x
  | .y => q.y
  | .w => q.w
  | .h => q.h

/-- A rectangle register with one field replaced. -/
def Rect.put (q : Rect) (v : I32) : RectField → Rect
  | .x => { q with x := v }
  | .y => { q with y := v }
  | .w => { q with w := v }
  | .h => { q with h := v }

/-- A canvas register's field as the host reads it: PTR is `{v, base}`, v at bit 32; the others are sign-extended (R35). -/
def Canvas.get (d : Canvas) : CanvasField → Word
  | .ptr => 0#31 ++ BitVec.ofBool d.v ++ d.base
  | .width => d.width.signExtend 64
  | .height => d.height.signExtend 64
  | .stride => d.stride.signExtend 64

/-- A canvas register after the host writes `v` to one of its fields (R36): PTR takes bits 32:0, the others bits 31:0. -/
def Canvas.put (d : Canvas) (v : Word) : CanvasField → Canvas
  | .ptr => { d with v := v.getLsbD 32, base := v.extractLsb' 0 32 }
  | .width => { d with width := v.extractLsb' 0 32 }
  | .height => { d with height := v.extractLsb' 0 32 }
  | .stride => { d with stride := v.extractLsb' 0 32 }

/-- The value `RegRead` returns for a mapped register (R35). -/
def State.readReg (s : State) : HostReg → Word
  | .g i => s.G i
  | .r i f => ((s.R i).get f).signExtend 64
  | .c i f => (s.C i).get f
  | .status => s.statusWord
  | .res => s.res
  | .finfo => s.finfoWord

/-- The state after `RegWrite` of a mapped register (R36): no check on the value; STATUS, RES and FINFO ignore it. -/
def State.writeReg (s : State) (v : Word) : HostReg → State
  | .g i => s.setG i v
  | .r i f => s.setR i ((s.R i).put (v.extractLsb' 0 32) f)
  | .c i f => s.setC i ((s.C i).put v f)
  | .status => s
  | .res => s
  | .finfo => s

/-- A fault of a host access: taken when FAULT = 0, nothing when FAULT = 1 (R37, R48, R206). -/
def State.raiseUnlessFaulted (s : State) (k : Cause) (src : Source) (info : BitVec 32) : State :=
  if s.fault then s else s.raise k src info

/-- The transaction returns `v` to the host (R47). -/
def State.answer (s : State) (v : Word) : State := { s with rsp := some v }

/-- `RegRead(n)` (R35, R37, R206). -/
def State.regRead (s : State) (n : BitVec 8) : State :=
  match hostReg n with
  | some q => s.answer (s.readReg q)
  | none => (s.raiseUnlessFaulted .badReg .reg (n.setWidth 32)).answer 0

/-- `RegWrite(n, v)` (R36, R37, R206). -/
def State.regWrite (s : State) (n : BitVec 8) (v : Word) : State :=
  match hostReg n with
  | some q => if s.fault then s else s.writeReg v q
  | none => s.raiseUnlessFaulted .badReg .reg (n.setWidth 32)

/-- The host's `MemRead(a)` (R48, R206). -/
def State.hostMemRead (s : State) (a : BitVec 32) : State :=
  if a.toNat < s.mem.words then s.answer (s.mem.read a.toNat)
  else (s.raiseUnlessFaulted .memRange .mem a).answer 0

/-- The host's `MemWrite(a, v)` (R48, R206). -/
def State.hostMemWrite (s : State) (a : BitVec 32) (v : Word) : State :=
  if s.fault then s
  else if a.toNat < s.mem.words then s.setMem (s.mem.write a.toNat v)
  else s.raise .memRange .mem a

end Sys2Proof.Machine
end

