-- ==== Sys2Proof/Machine/Command.lean ====
section
/-! DEFINITION. One host transaction (spec/20_memory.md R47), the `Cmd` transaction among them (spec/30_encoding.md
R66), and the reading of the host's next transaction. -/

namespace Sys2Proof.Machine

/-- `Cmd(w)`: discarded without being decoded while FAULT = 1 (R206); a word that does not decode raises ILLEGAL_CMD
(R66 steps 1 to 3); a command is executed (R66 steps 4 and 5). -/
def runCmd (w : CmdWord) (s : State) : Host.Outcome State Fault Refusal :=
  if s.fault then .next s
  else
    match decode w with
    | .ok i => exec i s
    | .error _ => .next (s.raise .illegalCmd .cmd w)

/-- The effect of one transaction (R47). -/
def perform (t : Transaction) (s : State) : Host.Outcome State Fault Refusal :=
  match t with
  | .reset => .next s.resetBlock
  | .cmd w => runCmd w s
  | .regRead n => .next (s.regRead n)
  | .regWrite n v => .next (s.regWrite n v)
  | .memRead a => .next (s.hostMemRead a)
  | .memWrite a v => .next (s.hostMemWrite a v)

/-- The block accepts a transaction: the later ones are still to come, and nothing is returned yet (R47; logs 4, 5). -/
def State.accept (s : State) (rest : List Transaction) : State := { s with host := rest, rsp := none }

/-- The host issues `Cmd(w)` next (log 6). -/
def State.issueCmd (s : State) (w : CmdWord) : State := { s with host := .cmd w :: s.host }

end Sys2Proof.Machine
end

