-- ==== Sys2Proof/Machine/Step.lean ====
section
/-! DEFINITION. A step is one host transaction (spec/00_scope.md R14); with none issued the block is idle and holds its
state (spec/60_exceptions.md R210). -/

namespace Sys2Proof.Machine

/-- The next transaction of the host, from acceptance to completion (R14, R47). -/
def step (s : State) : Host.Outcome State Fault Refusal :=
  match s.host with
  | [] => .next s
  | t :: rest => perform t (s.accept rest)

/-- `s` with the command word `w` (`nbits` bits of the table, 0 above them) as the host's next transaction, so that the
very next step runs it (log 6). -/
def State.withFetchWord (s : State) (nbits w : Nat) : State :=
  s.issueCmd (BitVec.ofNat 32 (w % 2 ^ nbits))

end Sys2Proof.Machine
end

