-- ==== Sys2Proof/Safety.lean ====
section
/-! DEFINITION. The terms in which the claims are stated: what each command may write and which faults it may raise, the
state a command faults to, what a memory update leaves, and the invariant that every step keeps. -/

namespace Sys2Proof.Machine

/-! ### What a command may write, and raise -/

/-- The words of MEM a command may store to. -/
inductive Stored where
  | nothing
  /-- The cell `(R[rr].x, R[rr].y)` of `C[cs]` (R184, R186). -/
  | cell (cs : CReg) (rr : RReg)
  /-- Every cell of `C[cs]` (R191). -/
  | cells (cs : CReg)
  /-- The cell that holds the pixel `(R[rr].x, R[rr].y)` of `C[cs]` (R193). -/
  | pixel (cs : CReg) (rr : RReg)
  /-- The cells that hold the pixels of the line `R[rr]` inside `C[cs]` (R197). -/
  | line (cs : CReg) (rr : RReg)
  deriving DecidableEq, Repr

/-- The address `a` is one the command begun in `s` may store to. -/
def Stored.hits (s : State) (a : Nat) : Stored → Prop
  | .nothing => False
  | .cell cs rr =>
    (s.C cs).InCells (s.rect rr).x (s.rect rr).y ∧ (s.C cs).cellAddr (s.rect rr).x (s.rect rr).y = a
  | .cells cs => ∃ x y : Int, (s.C cs).InCells x y ∧ (s.C cs).cellAddr x y = a
  | .pixel cs rr =>
    (s.C cs).InPixels (s.rect rr).x (s.rect rr).y ∧
    (s.C cs).cellAddr ((s.rect rr).x / 8) ((s.rect rr).y / 8) = a
  | .line cs rr =>
    ∃ p ∈ lineSeq (s.rect rr).x (s.rect rr).y (s.rect rr).w (s.rect rr).h,
      (s.C cs).InPixels p.1 p.2 ∧ (s.C cs).cellAddr (p.1 / 8) (p.2 / 8) = a

/-- What a command may write and which faults it may raise once decoded. -/
structure Footprint where
  /-- The glyph register it writes. -/
  g : Option GReg
  /-- The rectangle register it writes. -/
  r : Option RReg
  /-- The canvas register it writes. -/
  c : Option CReg
  /-- It writes T (R30). -/
  t : Bool
  /-- It writes RES (R31). -/
  res : Bool
  /-- The words it stores to. -/
  stored : Stored
  /-- The causes it can raise (R201). -/
  causes : List Cause
  deriving DecidableEq, Repr

end Sys2Proof.Machine

namespace Sys2Proof

open Sys2Proof.Machine

/-- The footprint of each command, from the "Writes" and "Faults" of its rule, R30, R31 and R201. LUTRD's ILLEGAL_CMD is
that of a term with `k ≥ 7`, which no word decodes to. -/
def Instr.footprint : Instr → Footprint
  | .nop => ⟨none, none, none, false, false, .nothing, []⟩
  | .frompix gd _ _ => ⟨some gd, none, none, false, false, .nothing, [.operandRange]⟩
  | .pixval _ _ _ => ⟨none, none, none, false, true, .nothing, [.operandRange]⟩
  | .rowbyte _ _ => ⟨none, none, none, false, true, .nothing, [.operandRange]⟩
  | .lutrd _ _ => ⟨none, none, none, false, true, .nothing, [.illegalCmd, .operandRange]⟩
  | .gmask gd _ => ⟨some gd, none, none, false, false, .nothing, []⟩
  | .glyph4 gd _ _ _ _ => ⟨some gd, none, none, false, false, .nothing, []⟩
  | .tallhalf2 gd _ _ => ⟨some gd, none, none, false, false, .nothing, []⟩
  | .widehalf2 gd _ _ => ⟨some gd, none, none, false, false, .nothing, []⟩
  | .gmov gd _ => ⟨some gd, none, none, false, false, .nothing, []⟩
  | .gflip gd _ => ⟨some gd, none, none, false, false, .nothing, []⟩
  | .gmirror gd _ => ⟨some gd, none, none, false, false, .nothing, []⟩
  | .grot180 gd _ => ⟨some gd, none, none, false, false, .nothing, []⟩
  | .gtransp gd _ => ⟨some gd, none, none, false, false, .nothing, []⟩
  | .grot270 gd _ => ⟨some gd, none, none, false, false, .nothing, []⟩
  | .grot90 gd _ => ⟨some gd, none, none, false, false, .nothing, []⟩
  | .mtop _ => ⟨none, none, none, false, true, .nothing, []⟩
  | .mbot _ => ⟨none, none, none, false, true, .nothing, []⟩
  | .mleft _ => ⟨none, none, none, false, true, .nothing, []⟩
  | .mright _ => ⟨none, none, none, false, true, .nothing, []⟩
  | .gwidth _ => ⟨none, none, none, false, true, .nothing, []⟩
  | .gheight _ => ⟨none, none, none, false, true, .nothing, []⟩
  | .gmerge gd _ _ _ => ⟨some gd, none, none, false, false, .nothing, []⟩
  | .gshl gd _ _ => ⟨some gd, none, none, false, false, .nothing, [.operandRange]⟩
  | .gshr gd _ _ => ⟨some gd, none, none, false, false, .nothing, [.operandRange]⟩
  | .gshu gd _ _ => ⟨some gd, none, none, false, false, .nothing, [.operandRange]⟩
  | .gshd gd _ _ => ⟨some gd, none, none, false, false, .nothing, [.operandRange]⟩
  | .gcyl gd _ _ => ⟨some gd, none, none, false, false, .nothing, [.operandRange]⟩
  | .gcyr gd _ _ => ⟨some gd, none, none, false, false, .nothing, [.operandRange]⟩
  | .gcyu gd _ _ => ⟨some gd, none, none, false, false, .nothing, [.operandRange]⟩
  | .gcyd gd _ _ => ⟨some gd, none, none, false, false, .nothing, [.operandRange]⟩
  | .rnorm rd _ => ⟨none, some rd, none, false, false, .nothing, [.intOverflow]⟩
  | .rtoabs rd _ => ⟨none, some rd, none, false, false, .nothing, [.intOverflow]⟩
  | .rtoreg rd _ => ⟨none, some rd, none, false, false, .nothing, [.intOverflow]⟩
  | .rclip rd _ _ => ⟨none, some rd, none, true, false, .nothing, [.intOverflow]⟩
  | .caddr _ _ => ⟨none, none, none, false, true, .nothing, [.badCanvas, .canvasBounds]⟩
  | .cldg gd _ _ => ⟨some gd, none, none, false, false, .nothing, [.badCanvas, .canvasBounds, .memRange]⟩
  | .cstg _ cs rr => ⟨none, none, none, false, false, .cell cs rr, [.badCanvas, .canvasBounds, .memRange]⟩
  | .cat gd _ _ => ⟨some gd, none, none, true, false, .nothing, [.badCanvas, .memRange]⟩
  | .cput _ cs rr => ⟨none, none, none, true, false, .cell cs rr, [.badCanvas, .memRange]⟩
  | .cisnull _ => ⟨none, none, none, true, false, .nothing, [.badCanvas]⟩
  | .ccrop cd _ _ => ⟨none, none, some cd, true, false, .nothing, [.badCanvas, .intOverflow]⟩
  | .cfill cs _ => ⟨none, none, none, false, false, .cells cs, [.badCanvas, .memRange]⟩
  | .cplot cs rr => ⟨none, none, none, true, false, .pixel cs rr, [.badCanvas, .memRange]⟩
  | .cline cs rr => ⟨none, none, none, false, false, .line cs rr, [.badCanvas, .memRange]⟩

end Sys2Proof

namespace Sys2Proof.Machine

/-- The command `i` is written as the word `w`, and `w` decodes to it (R61, R64, R66). -/
abbrev HasWord (i : Instr) (w : CmdWord) : Prop := encode i = w ∧ decode w = .ok i

/-- The pixel `(x, y)` of the glyph `v` is `f x y`, for each of the 64 pixels (R9). -/
abbrev Pixels (v : Word) (f : Nat → Nat → Bool) : Prop := ∀ x y, x < 8 → y < 8 → px v x y = f x y

/-- The command `i` begun in `s` raises the fault `k` and does nothing else (R204). -/
abbrev Faults (i : Instr) (s : State) (k : Cause) : Prop := exec i s = .next (s.raise k .cmd (encode i))

/-- `m'` has the parameters of `m`, holds `v` at every address of `at_`, and reads as `m` everywhere else. -/
abbrev Memory.Updated (m m' : Memory) (at_ : Nat → Prop) (v : Word) : Prop :=
  m'.words = m.words ∧ m'.powerOn = m.powerOn ∧
  (∀ a, at_ a → m'.read a = v) ∧ (∀ a, ¬at_ a → m'.read a = m.read a)

/-! ### The invariant -/

/-- R7: the legal parameter sets. -/
abbrev ParamsLegal (words w h : Nat) : Prop :=
  (1 ≤ words ∧ words ≤ 2 ^ 32) ∧ (1 ≤ w ∧ w ≤ 2 ^ 31 - 1) ∧ (1 ≤ h ∧ h ≤ 2 ^ 31 - 1) ∧ w * h ≤ words

/-- The word is one of the 45 commands with legal fields (R67). -/
def decodes (w : CmdWord) : Bool :=
  match decode w with
  | .ok _ => true
  | .error _ => false

/-- The fault record means what R29, R32, R201 and R202 say. While FAULT = 0 it is 0. While FAULT = 1 it names a `Cmd`
with one of the causes 1 to 6, where INFO is the word and the cause is ILLEGAL_CMD exactly when the word does not decode;
or a register access with BAD_REG, where INFO is an unmapped register number; or a host memory access with MEM_RANGE,
where INFO is an address outside MEM. -/
abbrev State.FaultRecordOk (s : State) : Prop :=
  if s.fault then
    (s.src = 1 ∧ (1 ≤ s.cause.toNat ∧ s.cause.toNat ≤ 6) ∧ (s.cause = 1 ↔ decodes s.info = false)) ∨
    (s.src = 2 ∧ s.cause = 7 ∧ s.info.toNat < 256 ∧ hostReg (s.info.setWidth 8) = none) ∨
    (s.src = 3 ∧ s.cause = 5 ∧ s.mem.words ≤ s.info.toNat)
  else s.cause = 0 ∧ s.info = 0 ∧ s.src = 0

/-- The invariant: legal parameters, MEM in its canonical form, a meaningful fault record, and RES at most the largest
cell address a canvas can have (R182). -/
abbrev State.Inv (s : State) : Prop :=
  ParamsLegal s.mem.words s.screen.width s.screen.height ∧ s.mem.WF ∧ s.FaultRecordOk ∧
  s.res.toNat ≤ 0x3FFFFFFFFFFFFFFF

/-- A good state (R14): the invariant holds and the block has not faulted. -/
abbrev State.Good (s : State) : Prop := s.Inv ∧ s.fault = false

end Sys2Proof.Machine
end

