-- ==== Sys2Proof/Certificates/Slice0/Obligations.lean ====
section
/-! DEFINITION. The statements for the provers, from the numbered rules of spec/. Every statement about what a command
leaves is an equation for `exec` or `perform`, so it also says that the command completes and what it leaves alone. -/

section Statements

open Sys2Proof Sys2Proof.Machine

/-! ### Encoding (spec/30_encoding.md) -/

/-- R61 to R64, R66: no bit of a command is lost on the way to its word and back. -/
def Obligations.DecodeReadsBackEveryWellFormedCommand : Prop :=
  ∀ i : Instr, i.wellFormed = true → decode (encode i) = .ok i

/-- R61 to R64, R66: a word that decodes is the one word of its command, and the command is well-formed. -/
def Obligations.DecodedWordsAreEncodings : Prop :=
  ∀ (w : CmdWord) (i : Instr), decode w = .ok i → encode i = w ∧ i.wellFormed = true

/-- R67 (the spec's own inference): a word decodes or faults; the rows of the opcode table select exactly the words of
their commands; the masks contain the opcode byte, the matches differ there, and at most one row matches. -/
def Obligations.OpcodeTableSelectsExactlyTheCommands : Prop :=
  (∀ w : CmdWord, (∃ i, decode w = .ok i) ∨
    ∀ s : State, s.fault = false → perform (.cmd w) s = .next (s.raise .illegalCmd .cmd w)) ∧
  (∀ row ∈ opcodeTable, ∀ w, row.selects w = true ↔ ∃ i, decode w = .ok i ∧ i.mnemonic = row.mnemonic) ∧
  (∀ i : Instr, ∃ row ∈ opcodeTable, row.mnemonic = i.mnemonic) ∧
  opcodeTable.length = 45 ∧
  (∀ row ∈ opcodeTable, row.mask &&& 0xFF000000 = 0xFF000000) ∧
  opcodeTable.Pairwise (fun p q => p.value &&& 0xFF000000 ≠ q.value &&& 0xFF000000) ∧
  (∀ w, ∀ p ∈ opcodeTable, ∀ q ∈ opcodeTable, p.selects w = true → q.selects w = true → p = q)

/-- The example words of R71, R86, R102, R115, R132, R147, R162 and R191 decode to the commands they are given for. -/
def Obligations.ExampleWordsDecode : Prop :=
  decode 0x16100000 = .ok (.grot90 1 0) ∧ decode 0x30301200 = .ok (.gmerge 3 0 1 2) ∧
  decode 0x66100000 = .ok (.ccrop 1 0 0) ∧ decode 0x0440000A = .ok (.lutrd 4 10) ∧
  decode 0x01032000 = .ok (.frompix 0 3 2) ∧ decode 0x05250000 = .ok (.gmask 2 5) ∧
  decode 0x06401230 = .ok (.glyph4 4 0 1 2 3) ∧ decode 0x11100000 = .ok (.gflip 1 0) ∧
  decode 0x20000000 = .ok (.mtop 0) ∧ decode 0x40101000 = .ok (.gshl 1 0 1) ∧
  decode 0x50100000 = .ok (.rnorm 1 0) ∧ decode 0x53201000 = .ok (.rclip 2 0 1) ∧
  decode 0x61100000 = .ok (.cldg 1 0 0) ∧ decode 0x67100000 = .ok (.cfill 1 0)

/-- R68: reserved opcodes, non-zero unused fields and out-of-file register indices all raise ILLEGAL_CMD (the mask of
an opcode's row covers its unused fields and the bits of its register fields that must be 0, R67); NOP and the
all-ones word. -/
def Obligations.ReservedEncodingsRaiseIllegalCmd : Prop :=
  let reserved : Nat → Prop := fun n =>
    (0x09 ≤ n ∧ n ≤ 0x0F) ∨ (0x17 ≤ n ∧ n ≤ 0x1F) ∨ (0x26 ≤ n ∧ n ≤ 0x2F) ∨ (0x31 ≤ n ∧ n ≤ 0x3F) ∨
    (0x48 ≤ n ∧ n ≤ 0x4F) ∨ (0x54 ≤ n ∧ n ≤ 0x5F) ∨ (0x6A ≤ n ∧ n ≤ 0xFF)
  (∀ n < 256, reserved n ↔ ¬∃ i : Instr, (opOf (encode i)).toNat = n) ∧
  (∀ (s : State) (w : CmdWord), s.fault = false → reserved (opOf w).toNat →
    perform (.cmd w) s = .next (s.raise .illegalCmd .cmd w)) ∧
  (∀ (s : State) (w : CmdWord), s.fault = false → ∀ row ∈ opcodeTable,
    w &&& 0xFF000000 = row.value → w &&& row.mask ≠ row.value →
    perform (.cmd w) s = .next (s.raise .illegalCmd .cmd w)) ∧
  (∀ s : State, s.fault = false → perform (.cmd 0) s = .next s) ∧
  (∀ s : State, s.fault = false → perform (.cmd 0xFFFFFFFF) s = .next (s.raise .illegalCmd .cmd 0xFFFFFFFF))

/-- R70: opcode 0x17 and LUTRD selector 7 are illegal, although the datapath could reflect across the anti-diagonal.
-/
def Obligations.TheEighthTransformIsReserved : Prop :=
  (∀ (s : State) (w : CmdWord), s.fault = false →
    (opOf w = 0x17 ∨ (opOf w = 0x04 ∧ faOf w = 7)) → perform (.cmd w) s = .next (s.raise .illegalCmd .cmd w)) ∧
  (∀ (i : BitVec 8) (s : State), Faults (.lutrd 7 i) s .illegalCmd) ∧
  (∀ g : Word, Pixels (xf 7 g) fun x y => px g (7 - y) (7 - x))

/-! ### The machine (spec/00_scope.md R14, spec/20_memory.md R47, spec/60_exceptions.md, spec/70_reset_and_hazards.md) -/

/-- R14, R47, R66: a step takes the host's next transaction; a decoded command word runs `exec` of its command, a word
that does not decode raises ILLEGAL_CMD; with no transaction the block holds its state (R210). -/
def Obligations.StepRunsTheDecodedCommand : Prop :=
  (∀ (s : State) (t : Transaction) (rest : List Transaction), s.host = t :: rest →
    step s = perform t (s.accept rest)) ∧
  (∀ (s : State) (w : CmdWord) (rest : List Transaction) (i : Instr), s.host = .cmd w :: rest → s.fault = false →
    decode w = .ok i → step s = exec i (s.accept rest)) ∧
  (∀ (s : State) (w : CmdWord) (i : Instr), s.fault = false → decode w = .ok i →
    step (s.withFetchWord 32 w.toNat) = exec i (s.accept s.host)) ∧
  (∀ (s : State) (w : CmdWord) (e : DecodeError), s.fault = false → decode w = .error e →
    perform (.cmd w) s = .next (s.raise .illegalCmd .cmd w)) ∧
  (∀ s : State, s.host = [] → step s = .next s)

/-- R14: every transaction in every state, and so every step, yields a new state. -/
def Obligations.EveryTransactionYieldsAState : Prop :=
  (∀ (i : Instr) (s : State), ∃ t, exec i s = .next t) ∧
  (∀ (x : Transaction) (s : State), ∃ t, perform x s = .next t) ∧
  (∀ s : State, ∃ t, step s = .next t)

/-- R206: while FAULT = 1 the block is frozen; reads answer and change nothing; only `Reset` leaves the faulted state.
-/
def Obligations.FaultedBlockIsFrozen : Prop :=
  ∀ s : State, s.fault = true →
    (∀ w, perform (.cmd w) s = .next s) ∧
    (∀ n v, perform (.regWrite n v) s = .next s) ∧
    (∀ a v, perform (.memWrite a v) s = .next s) ∧
    (∀ n q, hostReg n = some q → perform (.regRead n) s = .next (s.answer (s.readReg q))) ∧
    (∀ n, hostReg n = none → perform (.regRead n) s = .next (s.answer 0)) ∧
    (∀ a : BitVec 32, a.toNat < s.mem.words → perform (.memRead a) s = .next (s.answer (s.mem.read a.toNat))) ∧
    (∀ a : BitVec 32, s.mem.words ≤ a.toNat → perform (.memRead a) s = .next (s.answer 0)) ∧
    (∀ x t, perform x s = .next t → (t.fault = false ↔ x = .reset))

/-- R220: `Reset`, in every state, puts every register at its reset value and does not write MEM. -/
def Obligations.ResetPutsEveryRegisterAtItsResetValue : Prop :=
  ∀ s : State, ∃ t, perform .reset s = .next t ∧
    (∀ i, t.G i = 0) ∧ (∀ i, t.R i = ⟨0, 0, 0, 0⟩) ∧
    t.C 0 = { v := true, base := 0, width := BitVec.ofNat 32 s.screen.width,
              height := BitVec.ofNat 32 s.screen.height, stride := BitVec.ofNat 32 s.screen.width } ∧
    (∀ i : CReg, i ≠ 0 → t.C i = ⟨false, 0, 0, 0, 0⟩) ∧
    t.t = false ∧ t.fault = false ∧ t.cause = 0 ∧ t.res = 0 ∧ t.info = 0 ∧ t.src = 0 ∧
    t.statusWord = 0 ∧ t.finfoWord = 0 ∧ t.mem = s.mem ∧ t.screen = s.screen

/-- R39, R221, R222: the state after the first Reset, for every legal parameter set. The model's own choices in it (no
transaction listed, nothing returned) are those of logs 4 and 5. -/
def Obligations.StateAfterTheFirstReset : Prop :=
  (∀ i, State.reset.G i = 0) ∧ (∀ i, State.reset.R i = ⟨0, 0, 0, 0⟩) ∧
  (State.reset.C 0).v = true ∧ (State.reset.C 0).base = 0 ∧
  (State.reset.C 0).width.toInt = Config.screenW ∧ (State.reset.C 0).height.toInt = Config.screenH ∧
  (State.reset.C 0).stride.toInt = Config.screenW ∧
  (∀ i : CReg, i ≠ 0 → State.reset.C i = Canvas.null) ∧
  State.reset.statusWord = 0 ∧ State.reset.res = 0 ∧ State.reset.finfoWord = 0 ∧
  State.reset.mem.words = Config.memWords ∧ (∀ a, State.reset.mem.read a = Config.memInit a) ∧
  ParamsLegal Config.memWords Config.screenW Config.screenH ∧
  (State.reset.C 0).WF ∧ ¬(State.reset.C 0).IsNull ∧ (State.reset.C 0).Fits State.reset.mem.words ∧
  State.reset.host = [] ∧ State.reset.rsp = none

/-- R202, R204: a transaction that faults leaves the state it found with the fault record written, and nothing else
but the value a read returns; the record names the word, the register number or the address. -/
def Obligations.FaultsArePrecise : Prop :=
  ∀ (x : Transaction) (s t : State), s.fault = false → perform x s = .next t → t.fault = true →
    match x with
    | .reset => False
    | .cmd w => ∃ k : Cause, t = { s with fault := true, cause := k.code, src := 1, info := w }
    | .regRead n =>
      t = { s with fault := true, cause := 7, src := 2, info := n.setWidth 32, rsp := some 0 }
    | .regWrite n _ => t = { s with fault := true, cause := 7, src := 2, info := n.setWidth 32 }
    | .memRead a => t = { s with fault := true, cause := 5, src := 3, info := a, rsp := some 0 }
    | .memWrite a _ => t = { s with fault := true, cause := 5, src := 3, info := a }

/-- R201, R205: a command raises only the causes the table names for it, and a command that raises none leaves the
fault record as it was. -/
def Obligations.CommandsRaiseOnlyTheirCauses : Prop :=
  ∀ (i : Instr) (s t : State), exec i s = .next t →
    (∃ k ∈ i.footprint.causes, t = s.raise k .cmd (encode i)) ∨
    (t.fault = s.fault ∧ t.cause = s.cause ∧ t.info = s.info ∧ t.src = s.src)

/-- Every step keeps the invariant: legal parameters, MEM canonical, the fault record as R29, R32 and R202 say, RES
within R182's bound. -/
def Obligations.StepKeepsTheInvariant : Prop :=
  ∀ s t : State, s.Inv → step s = .next t → t.Inv

/-- The state after reset is good: the invariant holds and the block has not faulted. -/
def Obligations.ResetStateIsGood : Prop := State.reset.Good

/-! ### Frames -/

/-- R12: a command changes no glyph, rectangle or canvas register but its destination (`Instr.footprint`). -/
def Obligations.CommandsChangeOnlyTheirDestinationRegister : Prop :=
  ∀ (i : Instr) (s t : State), exec i s = .next t →
    (∀ j, i.footprint.g ≠ some j → t.G j = s.G j) ∧
    (∀ j, i.footprint.r ≠ some j → t.R j = s.R j) ∧
    (∀ j, i.footprint.c ≠ some j → t.C j = s.C j)

/-- R30, R31: which commands write T, which write RES; every other command leaves it unchanged. -/
def Obligations.OnlyTheNamedCommandsWriteTAndRes : Prop :=
  ∀ (i : Instr) (s t : State), exec i s = .next t →
    (i.mnemonic ∉ ["RCLIP", "CCROP", "CAT", "CPUT", "CISNULL", "CPLOT"] → t.t = s.t) ∧
    (i.mnemonic ∉ ["PIXVAL", "ROWBYTE", "LUTRD", "MTOP", "MBOT", "MLEFT", "MRIGHT", "GWIDTH", "GHEIGHT", "CADDR"] →
      t.res = s.res)

/-- R46: a command changes no word of MEM but those its footprint computes, with the meaning's own addresses; the
parameters, the host's later transactions and the returned value stay as they are. -/
def Obligations.CommandsChangeOnlyTheWordsTheyStoreTo : Prop :=
  ∀ (i : Instr) (s t : State), exec i s = .next t →
    (∀ a, ¬i.footprint.stored.hits s a → t.mem.read a = s.mem.read a) ∧
    t.mem.words = s.mem.words ∧ t.mem.powerOn = s.mem.powerOn ∧ t.screen = s.screen ∧
    t.host = s.host ∧ t.rsp = s.rsp

/-- R30, R31: no command reads T or RES. Two states that agree in G, R, C, MEM and the fault record, whatever their T
and RES, are led to states that agree there; a command that writes T or RES writes the same value in both. -/
def Obligations.NoCommandReadsTOrRes : Prop :=
  ∀ (i : Instr) (s u s' u' : State), s.g = u.g → s.r = u.r → s.c = u.c → s.mem = u.mem →
    s.fault = u.fault → s.cause = u.cause → s.info = u.info → s.src = u.src →
    exec i s = .next s' → exec i u = .next u' →
    s'.g = u'.g ∧ s'.r = u'.r ∧ s'.c = u'.c ∧ s'.mem = u'.mem ∧
    s'.fault = u'.fault ∧ s'.cause = u'.cause ∧ s'.info = u'.info ∧ s'.src = u'.src ∧
    (s'.t = u'.t ∨ (s'.t = s.t ∧ u'.t = u.t)) ∧ (s'.res = u'.res ∨ (s'.res = s.res ∧ u'.res = u.res))

/-! ### The host's registers and memory (spec/10_state.md, spec/20_memory.md) -/

/-- R29, R32: the bits of STATUS and FINFO. -/
def Obligations.StatusAndFinfoLayout : Prop :=
  ∀ s : State,
    s.statusWord.getLsbD 0 = s.t ∧ s.statusWord.getLsbD 1 = s.fault ∧ s.statusWord.extractLsb' 2 6 = 0 ∧
    s.statusWord.extractLsb' 8 8 = s.cause ∧ s.statusWord.extractLsb' 16 48 = 0 ∧
    s.finfoWord.extractLsb' 0 32 = s.info ∧ s.finfoWord.extractLsb' 32 2 = s.src ∧
    s.finfoWord.extractLsb' 34 30 = 0 ∧
    (∀ v, perform (.regWrite 0x30 v) s = .next s ∧ perform (.regWrite 0x31 v) s = .next s ∧
      perform (.regWrite 0x32 v) s = .next s)

/-- R34, R35: what `RegRead` returns for each mapped number; the state does not change. -/
def Obligations.RegReadReturnsTheNamedRegister : Prop :=
  ∀ s : State,
    (∀ i : GReg, perform (.regRead (BitVec.ofNat 8 i.val)) s = .next (s.answer (s.G i))) ∧
    (∀ n : RReg,
      perform (.regRead (BitVec.ofNat 8 (0x10 + 4 * n.val))) s = .next (s.answer ((s.R n).x.signExtend 64)) ∧
      perform (.regRead (BitVec.ofNat 8 (0x11 + 4 * n.val))) s = .next (s.answer ((s.R n).y.signExtend 64)) ∧
      perform (.regRead (BitVec.ofNat 8 (0x12 + 4 * n.val))) s = .next (s.answer ((s.R n).w.signExtend 64)) ∧
      perform (.regRead (BitVec.ofNat 8 (0x13 + 4 * n.val))) s = .next (s.answer ((s.R n).h.signExtend 64))) ∧
    (∀ n : CReg,
      perform (.regRead (BitVec.ofNat 8 (0x20 + 4 * n.val))) s =
        .next (s.answer (BitVec.ofNat 64 (2 ^ 32 * (s.C n).v.toNat + (s.C n).base.toNat))) ∧
      perform (.regRead (BitVec.ofNat 8 (0x21 + 4 * n.val))) s = .next (s.answer ((s.C n).width.signExtend 64)) ∧
      perform (.regRead (BitVec.ofNat 8 (0x22 + 4 * n.val))) s = .next (s.answer ((s.C n).height.signExtend 64)) ∧
      perform (.regRead (BitVec.ofNat 8 (0x23 + 4 * n.val))) s = .next (s.answer ((s.C n).stride.signExtend 64))) ∧
    perform (.regRead 0x30) s = .next (s.answer s.statusWord) ∧
    perform (.regRead 0x31) s = .next (s.answer s.res) ∧
    perform (.regRead 0x32) s = .next (s.answer s.finfoWord)

/-- R36: what `RegWrite` does to each mapped register when FAULT = 0, with no check on the value; when FAULT = 1 it
does nothing. -/
def Obligations.RegWriteReplacesTheNamedField : Prop :=
  (∀ (s : State) (n : BitVec 8) (v : Word), s.fault = true → perform (.regWrite n v) s = .next s) ∧
  ∀ (s : State) (v : Word), s.fault = false →
    let lo : BitVec 32 := v.extractLsb' 0 32
    (∀ i : GReg, perform (.regWrite (BitVec.ofNat 8 i.val) v) s = .next (s.setG i v)) ∧
    (∀ n : RReg,
      perform (.regWrite (BitVec.ofNat 8 (0x10 + 4 * n.val)) v) s = .next (s.setR n { s.R n with x := lo }) ∧
      perform (.regWrite (BitVec.ofNat 8 (0x11 + 4 * n.val)) v) s = .next (s.setR n { s.R n with y := lo }) ∧
      perform (.regWrite (BitVec.ofNat 8 (0x12 + 4 * n.val)) v) s = .next (s.setR n { s.R n with w := lo }) ∧
      perform (.regWrite (BitVec.ofNat 8 (0x13 + 4 * n.val)) v) s = .next (s.setR n { s.R n with h := lo })) ∧
    (∀ n : CReg,
      perform (.regWrite (BitVec.ofNat 8 (0x20 + 4 * n.val)) v) s =
        .next (s.setC n { s.C n with v := v.getLsbD 32, base := lo }) ∧
      perform (.regWrite (BitVec.ofNat 8 (0x21 + 4 * n.val)) v) s = .next (s.setC n { s.C n with width := lo }) ∧
      perform (.regWrite (BitVec.ofNat 8 (0x22 + 4 * n.val)) v) s = .next (s.setC n { s.C n with height := lo }) ∧
      perform (.regWrite (BitVec.ofNat 8 (0x23 + 4 * n.val)) v) s = .next (s.setC n { s.C n with stride := lo })) ∧
    (∀ n : BitVec 8, n = 0x30 ∨ n = 0x31 ∨ n = 0x32 → perform (.regWrite n v) s = .next s)

/-- R37: an access to an unmapped number raises BAD_REG when FAULT = 0 and changes nothing when FAULT = 1; the read
returns 0. -/
def Obligations.UnmappedRegistersRaiseBadReg : Prop :=
  ∀ (s : State) (n : BitVec 8) (v : Word),
    (0x08 ≤ n.toNat ∧ n.toNat ≤ 0x0F) ∨ (0x33 ≤ n.toNat ∧ n.toNat ≤ 0xFF) →
    (s.fault = false →
      perform (.regRead n) s = .next ((s.raise .badReg .reg (n.setWidth 32)).answer 0) ∧
      perform (.regWrite n v) s = .next (s.raise .badReg .reg (n.setWidth 32))) ∧
    (s.fault = true → perform (.regRead n) s = .next (s.answer 0) ∧ perform (.regWrite n v) s = .next s)

/-- R48: the host's access to MEM, inside and outside it, with FAULT 0 and 1. -/
def Obligations.HostMemoryAccess : Prop :=
  ∀ (s : State) (a : BitVec 32) (v : Word),
    (a.toNat < s.mem.words → perform (.memRead a) s = .next (s.answer (s.mem.read a.toNat))) ∧
    (s.mem.words ≤ a.toNat → s.fault = false →
      perform (.memRead a) s = .next ((s.raise .memRange .mem a).answer 0) ∧
      perform (.memWrite a v) s = .next (s.raise .memRange .mem a)) ∧
    (s.mem.words ≤ a.toNat → s.fault = true → perform (.memRead a) s = .next (s.answer 0)) ∧
    (s.fault = true → perform (.memWrite a v) s = .next s) ∧
    (s.fault = false → a.toNat < s.mem.words →
      ∃ m, perform (.memWrite a v) s = .next (s.setMem m) ∧ s.mem.Updated m (fun b => b = a.toNat) v)

/-- The model's own form of MEM, no rule of the spec (log 3): in their canonical form two memories of the same
parameters that read alike are the same data. -/
def Obligations.MemoriesThatReadAlikeAreEqual : Prop :=
  ∀ m n : Memory, m.WF → n.WF → m.words = n.words → m.powerOn = n.powerOn → (∀ a, m.read a = n.read a) → m = n

/-- R52 (the spec's own inference from R51): a word written through one canvas is what any other canvas, and the host,
read at the same address. -/
def Obligations.AliasingIsVisibleAtOnce : Prop :=
  ∀ (s : State) (gs gd : GReg) (cs ct : CReg) (rr rq : RReg),
    let a := (s.C cs).cellAddr (s.rect rr).x (s.rect rr).y
    (s.C cs).WF → (s.C cs).Fits s.mem.words → (s.C cs).InCells (s.rect rr).x (s.rect rr).y →
    (s.C ct).WF → (s.C ct).Fits s.mem.words → (s.C ct).InCells (s.rect rq).x (s.rect rq).y →
    (s.C ct).cellAddr (s.rect rq).x (s.rect rq).y = a →
    ∃ t, exec (.cstg gs cs rr) s = .next t ∧ exec (.cldg gd ct rq) t = .next (t.setG gd (s.G gs)) ∧
      ∀ b : BitVec 32, (b.toNat : Int) = a → perform (.memRead b) t = .next (t.answer (s.G gs))

/-! ### Pixels and the permutation table (spec/40_glyph_pixel_lut.md) -/

/-- R199: NOP is the word 0 and changes no state; its opcode with any field not 0 is illegal. -/
def Obligations.NopChangesNothing : Prop :=
  HasWord .nop 0x00000000 ∧
  (∀ s : State, exec .nop s = .next s) ∧
  (∀ (s : State) (w : CmdWord), s.fault = false → opOf w = 0 → w ≠ 0 →
    perform (.cmd w) s = .next (s.raise .illegalCmd .cmd w))

/-- R81, R82, R86: FROMPIX sets exactly the pixel it names, and raises OPERAND_RANGE for a coordinate above 7. -/
def Obligations.FrompixSetsExactlyOnePixel : Prop :=
  ∀ (gd : GReg) (x y : Nibble) (s : State),
    HasWord (.frompix gd x y) (cmdWord 0x01 (nib gd) x y 0 0 0) ∧
    (x.toNat ≤ 7 → y.toNat ≤ 7 →
      ∃ v : Word, exec (.frompix gd x y) s = .next (s.setG gd v) ∧
        v.toNat = 2 ^ (63 - x.toNat - 8 * y.toNat) ∧
        Pixels v fun x' y' => decide (x' = x.toNat ∧ y' = y.toNat)) ∧
    (7 < x.toNat ∨ 7 < y.toNat → Faults (.frompix gd x y) s .operandRange)

/-- R87, R88: PIXVAL returns the pixel, ROWBYTE the row's byte. That the byte's bit 7 is the row's leftmost pixel is the
spec's own inference, R83 from R9. -/
def Obligations.PixvalAndRowbyteReadTheGlyph : Prop :=
  ∀ (gs : GReg) (x y : Nibble) (s : State),
    HasWord (.pixval gs x y) (cmdWord 0x02 (nib gs) x y 0 0 0) ∧
    (x.toNat ≤ 7 → y.toNat ≤ 7 →
      exec (.pixval gs x y) s = .next (s.setRes (if px (s.G gs) x.toNat y.toNat then 1 else 0))) ∧
    (7 < x.toNat ∨ 7 < y.toNat → Faults (.pixval gs x y) s .operandRange) ∧
    HasWord (.rowbyte gs y) (cmdWord 0x03 (nib gs) y 0 0 0 0) ∧
    (y.toNat ≤ 7 →
      ∃ b : BitVec 8, exec (.rowbyte gs y) s = .next (s.setRes b.toNat) ∧
        ∀ c, c < 8 → b.getLsbD (7 - c) = px (s.G gs) c y.toNat) ∧
    (7 < y.toNat → Faults (.rowbyte gs y) s .operandRange)

/-- R89: LUTRD returns the entry of the permutation table, after its two tests in their order. -/
def Obligations.LutrdReturnsTheTableEntry : Prop :=
  ∀ (k : Nibble) (i : BitVec 8) (s : State),
    encode (.lutrd k i) = cmdWord 0x04 k 0 0 0 (i.extractLsb' 4 4) (i.extractLsb' 0 4) ∧
    (k.toNat < 7 → decode (encode (.lutrd k i)) = .ok (.lutrd k i)) ∧
    (7 ≤ k.toNat → Faults (.lutrd k i) s .illegalCmd) ∧
    (k.toNat < 7 → 63 < i.toNat → Faults (.lutrd k i) s .operandRange) ∧
    (k.toNat < 7 → i.toNat ≤ 63 →
      exec (.lutrd k i) s = .next (s.setRes (perm k.toNat i.toNat)) ∧ perm k.toNat i.toNat ≤ 63)

/-! ### Transforms (spec/42_glyph_transform.md) -/

/-- R84, R122 (the spec's own inferences): the swap networks, the permutation table and the pixel maps give the same
bits, and each row is a permutation. -/
def Obligations.SwapNetworksAgreeWithTheTable : Prop :=
  (∀ (k : Fin 7) (g : Word) (i : Nat), i < 64 →
    (xf (BitVec.ofNat 3 k.val) g).getLsbD i = g.getLsbD (perm k.val i)) ∧
  (∀ k : Fin 7, ((List.range 64).map (perm k.val)).Perm (List.range 64)) ∧
  ∀ g : Word,
    Pixels (xf 0 g) (fun x y => px g x y) ∧ Pixels (xf 1 g) (fun x y => px g x (7 - y)) ∧
    Pixels (xf 2 g) (fun x y => px g (7 - x) y) ∧ Pixels (xf 3 g) (fun x y => px g (7 - x) (7 - y)) ∧
    Pixels (xf 4 g) (fun x y => px g y x) ∧ Pixels (xf 5 g) (fun x y => px g y (7 - x)) ∧
    Pixels (xf 6 g) fun x y => px g (7 - y) x

/-- R114 to R120: the seven transforms as maps of pixels, each with its word. -/
def Obligations.TransformCommandsMovePixels : Prop :=
  ∀ (gd gs : GReg) (s : State),
    let g := s.G gs
    HasWord (.gmov gd gs) (cmdWord 0x10 (nib gd) (nib gs) 0 0 0 0) ∧
    HasWord (.gflip gd gs) (cmdWord 0x11 (nib gd) (nib gs) 0 0 0 0) ∧
    HasWord (.gmirror gd gs) (cmdWord 0x12 (nib gd) (nib gs) 0 0 0 0) ∧
    HasWord (.grot180 gd gs) (cmdWord 0x13 (nib gd) (nib gs) 0 0 0 0) ∧
    HasWord (.gtransp gd gs) (cmdWord 0x14 (nib gd) (nib gs) 0 0 0 0) ∧
    HasWord (.grot270 gd gs) (cmdWord 0x15 (nib gd) (nib gs) 0 0 0 0) ∧
    HasWord (.grot90 gd gs) (cmdWord 0x16 (nib gd) (nib gs) 0 0 0 0) ∧
    exec (.gmov gd gs) s = .next (s.setG gd g) ∧
    (∃ v, exec (.gflip gd gs) s = .next (s.setG gd v) ∧ Pixels v fun x y => px g x (7 - y)) ∧
    (∃ v, exec (.gmirror gd gs) s = .next (s.setG gd v) ∧ Pixels v fun x y => px g (7 - x) y) ∧
    (∃ v, exec (.grot180 gd gs) s = .next (s.setG gd v) ∧ Pixels v fun x y => px g (7 - x) (7 - y)) ∧
    (∃ v, exec (.gtransp gd gs) s = .next (s.setG gd v) ∧ Pixels v fun x y => px g y x) ∧
    (∃ v, exec (.grot270 gd gs) s = .next (s.setG gd v) ∧ Pixels v fun x y => px g y (7 - x)) ∧
    (∃ v, exec (.grot90 gd gs) s = .next (s.setG gd v) ∧ Pixels v fun x y => px g (7 - y) x)

/-- R121 (the spec's own inference from R110 to R113): the identities the document requires of flip, mirror, transpose
and the rotations (R113: `xf 6` is rotate90, `xf 3` rotate180, `xf 5` rotate270). -/
def Obligations.TransformIdentities : Prop :=
  ∀ g : Word,
    glyphFlip (glyphFlip g) = g ∧ glyphMirror (glyphMirror g) = g ∧ glyphTranspose (glyphTranspose g) = g ∧
    xf 6 (xf 6 (xf 6 (xf 6 g))) = g ∧ xf 3 (xf 3 g) = g ∧ xf 3 g = xf 6 (xf 6 g) ∧ xf 5 g = xf 6 (xf 3 g) ∧
    glyphMirror (glyphFlip g) = glyphFlip (glyphMirror g) ∧ glyphTranspose (glyphFlip g) = glyphMirror (glyphTranspose g) ∧
    xf 6 g = glyphTranspose (glyphMirror g) ∧ xf 3 g = glyphMirror (glyphFlip g) ∧ xf 5 g = glyphTranspose (glyphFlip g)

/-- R123 (the spec's own inference): the seven transforms preserve the number of set bits, 0 and all ones, and
distribute over the bitwise operations and the merge. -/
def Obligations.TransformsArePermutationsOfBits : Prop :=
  ∀ (k : Fin 7) (a b m : Word),
    let f := xf (BitVec.ofNat 3 k.val)
    (List.range 64).countP (fun i => (f a).getLsbD i) = (List.range 64).countP (fun i => a.getLsbD i) ∧
    f 0 = 0 ∧ f (BitVec.allOnes 64) = BitVec.allOnes 64 ∧
    f (a &&& b) = f a &&& f b ∧ f (a ||| b) = f a ||| f b ∧ f (a ^^^ b) = f a ^^^ f b ∧ f (~~~a) = ~~~(f a) ∧
    f (merge a b m) = merge (f a) (f b) (f m)

/-! ### Quadrants (spec/41_glyph_compose.md) -/

/-- R102: GMASK sets exactly the pixels of the quadrants its set selects; all 16 sets are legal. Which pixels those
are is the spec's own inference in R100. -/
def Obligations.GmaskIsTheUnionOfQuadrants : Prop :=
  ∀ (gd : GReg) (m : Nibble) (s : State),
    HasWord (.gmask gd m) (cmdWord 0x05 (nib gd) m 0 0 0 0) ∧
    exec (.gmask gd m) s = .next (s.setG gd
      ((if m.getLsbD 0 then 0xF0F0F0F000000000 else 0) ||| (if m.getLsbD 1 then 0x0F0F0F0F00000000 else 0) |||
       (if m.getLsbD 2 then 0x00000000F0F0F0F0 else 0) ||| (if m.getLsbD 3 then 0x000000000F0F0F0F else 0))) ∧
    Pixels (quadrantMask m) fun x y => m.getLsbD ((if x < 4 then 0 else 1) + (if y < 4 then 0 else 2))

/-- R103, R104, R105: composition from quadrants as pixels; bit `15 - x - 4*y` of a quadrant is its pixel `(x, y)`,
bit `31 - x - 4*y` of a tall half and `31 - x - 8*y` of a wide half theirs (R10, the spec's own reading); bits 63:16
of the sources do not matter. -/
def Obligations.ComposeFromQuadrants : Prop :=
  ∀ (gd g1 g2 g3 g4 : GReg) (s : State),
    let q : GReg → Nat → Nat → Bool := fun g x y => (s.G g).getLsbD (15 - x - 4 * y)
    HasWord (.glyph4 gd g1 g2 g3 g4) (cmdWord 0x06 (nib gd) (nib g1) (nib g2) (nib g3) (nib g4) 0) ∧
    HasWord (.tallhalf2 gd g1 g2) (cmdWord 0x07 (nib gd) (nib g1) (nib g2) 0 0 0) ∧
    HasWord (.widehalf2 gd g1 g2) (cmdWord 0x08 (nib gd) (nib g1) (nib g2) 0 0 0) ∧
    (∃ v, exec (.glyph4 gd g1 g2 g3 g4) s = .next (s.setG gd v) ∧
      Pixels v fun x y =>
        if y < 4 then (if x < 4 then q g1 x y else q g2 (x - 4) y)
        else (if x < 4 then q g3 x (y - 4) else q g4 (x - 4) (y - 4))) ∧
    (∃ v : Word, exec (.tallhalf2 gd g1 g2) s = .next (s.setG gd v) ∧ v.toNat < 2 ^ 32 ∧
      ∀ x y, x < 4 → y < 8 → v.getLsbD (31 - x - 4 * y) = if y < 4 then q g1 x y else q g2 x (y - 4)) ∧
    (∃ v : Word, exec (.widehalf2 gd g1 g2) s = .next (s.setG gd v) ∧ v.toNat < 2 ^ 32 ∧
      ∀ x y, x < 8 → y < 4 → v.getLsbD (31 - x - 8 * y) = if x < 4 then q g1 x y else q g2 (x - 4) y)

/-- R106 (the spec's own inference): reading back each quadrant through its mask reproduces it. -/
def Obligations.QuadrantsReadBackThroughTheirMasks : Prop :=
  ∀ a b c d : Quadrant,
    let g := glyph4 a b c d
    g &&& quadrantMask 1 = glyph4 a 0 0 0 ∧ g &&& quadrantMask 2 = glyph4 0 b 0 0 ∧
    g &&& quadrantMask 4 = glyph4 0 0 c 0 ∧ g &&& quadrantMask 8 = glyph4 0 0 0 d ∧
    g.extractLsb' 32 32 = wideHalf a b ∧ g.extractLsb' 0 32 = wideHalf c d ∧
    (∀ a' b' c' d' : Quadrant, glyph4 a' b' c' d' = g → a' = a ∧ b' = b ∧ c' = c ∧ d' = d) ∧
    glyph4 0xCC00 0 0 0 = 0xC0C0000000000000

/-! ### Measures (spec/43_glyph_measure.md) -/

/-- R130, R132 to R135: each margin command returns the number of entirely empty rows or columns at its side. -/
def Obligations.MarginCommandsCountEmptyLines : Prop :=
  ∀ (gs : GReg) (s : State),
    let g := s.G gs
    HasWord (.mtop gs) (cmdWord 0x20 (nib gs) 0 0 0 0 0) ∧ HasWord (.mbot gs) (cmdWord 0x21 (nib gs) 0 0 0 0 0) ∧
    HasWord (.mleft gs) (cmdWord 0x22 (nib gs) 0 0 0 0 0) ∧ HasWord (.mright gs) (cmdWord 0x23 (nib gs) 0 0 0 0 0) ∧
    (∃ n : Nat, exec (.mtop gs) s = .next (s.setRes n) ∧ n ≤ 8 ∧
      (∀ x y, x < 8 → y < n → px g x y = false) ∧ (n < 8 → ∃ x, x < 8 ∧ px g x n = true)) ∧
    (∃ n : Nat, exec (.mbot gs) s = .next (s.setRes n) ∧ n ≤ 8 ∧
      (∀ x y, x < 8 → y < n → px g x (7 - y) = false) ∧ (n < 8 → ∃ x, x < 8 ∧ px g x (7 - n) = true)) ∧
    (∃ n : Nat, exec (.mleft gs) s = .next (s.setRes n) ∧ n ≤ 8 ∧
      (∀ x y, x < n → y < 8 → px g x y = false) ∧ (n < 8 → ∃ y, y < 8 ∧ px g n y = true)) ∧
    (∃ n : Nat, exec (.mright gs) s = .next (s.setRes n) ∧ n ≤ 8 ∧
      (∀ x y, x < n → y < 8 → px g (7 - x) y = false) ∧ (n < 8 → ∃ y, y < 8 ∧ px g (7 - n) y = true))

/-- R136, R137, R139: the height is the number of rows from the first to the last non-empty row, the width likewise
for columns; both are 0 for the empty glyph. -/
def Obligations.GwidthAndGheightMeasureTheExtent : Prop :=
  ∀ (gs : GReg) (s : State),
    let g := s.G gs
    HasWord (.gwidth gs) (cmdWord 0x24 (nib gs) 0 0 0 0 0) ∧ HasWord (.gheight gs) (cmdWord 0x25 (nib gs) 0 0 0 0 0) ∧
    (g = 0 → exec (.gwidth gs) s = .next (s.setRes 0) ∧ exec (.gheight gs) s = .next (s.setRes 0)) ∧
    (g ≠ 0 →
      (∃ a b : Nat, a ≤ b ∧ b < 8 ∧ exec (.gwidth gs) s = .next (s.setRes ((b - a + 1 : Nat) : Int)) ∧
        (∃ y, y < 8 ∧ px g a y = true) ∧ (∃ y, y < 8 ∧ px g b y = true) ∧
        ∀ x y, x < 8 → y < 8 → px g x y = true → a ≤ x ∧ x ≤ b) ∧
      (∃ a b : Nat, a ≤ b ∧ b < 8 ∧ exec (.gheight gs) s = .next (s.setRes ((b - a + 1 : Nat) : Int)) ∧
        (∃ x, x < 8 ∧ px g x a = true) ∧ (∃ x, x < 8 ∧ px g x b = true) ∧
        ∀ x y, x < 8 → y < 8 → px g x y = true → a ≤ y ∧ y ≤ b))

/-- R131: the all-zero glyph has margins 8 and width and height 0; a non-zero glyph has margins of at most 7, opposite
margins of at most 7 together. -/
def Obligations.MarginsOfEmptyAndNonEmptyGlyphs : Prop :=
  (marginTop 0 = 8 ∧ marginBottom 0 = 8 ∧ marginLeft 0 = 8 ∧ marginRight 0 = 8 ∧ glyphWidth 0 = 0 ∧ glyphHeight 0 = 0) ∧
  ∀ g : Word, g ≠ 0 →
    marginTop g ≤ 7 ∧ marginBottom g ≤ 7 ∧ marginLeft g ≤ 7 ∧ marginRight g ≤ 7 ∧
    marginTop g + marginBottom g ≤ 7 ∧ marginLeft g + marginRight g ≤ 7

/-- R138 (the spec's own inferences): the table of corner cases (`clz64`, `ctz64`, `RowOr`, top, bottom, left, right,
width, height), and the relations of the measures with the transforms. -/
def Obligations.MeasuresOfTableAndTransforms : Prop :=
  (∀ q ∈ ([(0x0000000000000000, [64, 64, 0x00, 8, 8, 8, 8, 0, 0]), (0xFFFFFFFFFFFFFFFF, [0, 0, 0xFF, 0, 0, 0, 0, 8, 8]),
           (0x8000000000000000, [0, 63, 0x80, 0, 7, 0, 7, 1, 1]), (0x0000000000000001, [63, 0, 0x01, 7, 0, 7, 0, 1, 1]),
           (0x0000100000000000, [19, 44, 0x10, 2, 5, 3, 4, 1, 1]), (0x00000000000000FF, [56, 0, 0xFF, 7, 0, 0, 0, 8, 1]),
           (0x0101010101010101, [7, 0, 0x01, 0, 0, 7, 0, 1, 8]), (0x0000183C3C180000, [19, 19, 0x3C, 2, 2, 2, 2, 4, 4]),
           (0xFE8080F880808000, [0, 15, 0xFE, 0, 1, 0, 1, 7, 7])] : List (Word × List Nat)),
    [clz q.1, ctz q.1, (rowOr q.1).toNat, marginTop q.1, marginBottom q.1, marginLeft q.1, marginRight q.1,
     glyphWidth q.1, glyphHeight q.1] = q.2) ∧
  ∀ g : Word, marginTop (glyphFlip g) = marginBottom g ∧ marginLeft (glyphMirror g) = marginRight g ∧
    marginTop (glyphTranspose g) = marginLeft g ∧ glyphWidth (glyphTranspose g) = glyphHeight g

/-! ### Merge (spec/44_glyph_merge.md) -/

/-- R140, R141: GMERGE selects bit by bit, as the bit hack and as the naive form. -/
def Obligations.GmergeSelectsUnderTheMask : Prop :=
  ∀ (gd ga gb gm : GReg) (s : State),
    let a := s.G ga
    let b := s.G gb
    let m := s.G gm
    HasWord (.gmerge gd ga gb gm) (cmdWord 0x30 (nib gd) (nib ga) (nib gb) (nib gm) 0 0) ∧
    exec (.gmerge gd ga gb gm) s = .next (s.setG gd (a ^^^ ((a ^^^ b) &&& m))) ∧
    a ^^^ ((a ^^^ b) &&& m) = (a &&& ~~~m) ||| (b &&& m) ∧
    ∀ i, (a ^^^ ((a ^^^ b) &&& m)).getLsbD i = if m.getLsbD i then b.getLsbD i else a.getLsbD i

/-- R142, R143 (the spec's own inferences from R140): AND and OR from the merge, as functions and as commands, and the
laws of the merge; `P` is any function that only moves bits. -/
def Obligations.MergeLaws : Prop :=
  (∀ a b c m : Word,
    merge a b b = a ||| b ∧ merge b a b = a &&& b ∧ merge a (~~~a) m = a ^^^ m ∧
    merge a b m = merge b a (~~~m) ∧ merge a a m = a ∧ merge (merge a b m) c m = merge a c m ∧
    merge a b m &&& m = b &&& m ∧ merge a b m &&& ~~~m = a &&& ~~~m ∧
    ∀ (P : Word → Word) (p : Nat → Nat), (∀ g i, i < 64 → (P g).getLsbD i = g.getLsbD (p i)) →
      P (merge a b m) = merge (P a) (P b) (P m)) ∧
  (∀ (gd ga gb : GReg) (s : State),
    exec (.gmerge gd ga gb gb) s = .next (s.setG gd (s.G ga ||| s.G gb)) ∧
    exec (.gmerge gd gb ga gb) s = .next (s.setG gd (s.G ga &&& s.G gb)))

/-! ### Shift and cycle (spec/45_glyph_shift.md) -/

/-- R147 to R150: the four shifts move the picture and clear the vacated pixels; `n` above 7 raises OPERAND_RANGE. -/
def Obligations.ShiftCommandsMoveAndClear : Prop :=
  ∀ (gd gs : GReg) (n : Nibble) (s : State),
    let g := s.G gs
    let k := n.toNat
    HasWord (.gshl gd gs n) (cmdWord 0x40 (nib gd) (nib gs) n 0 0 0) ∧
    HasWord (.gshr gd gs n) (cmdWord 0x41 (nib gd) (nib gs) n 0 0 0) ∧
    HasWord (.gshu gd gs n) (cmdWord 0x42 (nib gd) (nib gs) n 0 0 0) ∧
    HasWord (.gshd gd gs n) (cmdWord 0x43 (nib gd) (nib gs) n 0 0 0) ∧
    (k ≤ 7 →
      (∃ v, exec (.gshl gd gs n) s = .next (s.setG gd v) ∧
        Pixels v fun x y => if x + k ≤ 7 then px g (x + k) y else false) ∧
      (∃ v, exec (.gshr gd gs n) s = .next (s.setG gd v) ∧
        Pixels v fun x y => if k ≤ x then px g (x - k) y else false) ∧
      (∃ v, exec (.gshu gd gs n) s = .next (s.setG gd v) ∧
        Pixels v fun x y => if y + k ≤ 7 then px g x (y + k) else false) ∧
      (∃ v, exec (.gshd gd gs n) s = .next (s.setG gd v) ∧
        Pixels v fun x y => if k ≤ y then px g x (y - k) else false)) ∧
    (7 < k → Faults (.gshl gd gs n) s .operandRange ∧ Faults (.gshr gd gs n) s .operandRange ∧
      Faults (.gshu gd gs n) s .operandRange ∧ Faults (.gshd gd gs n) s .operandRange)

/-- R151 to R154: the four cycles bring the pixels pushed out at one edge back at the opposite edge. -/
def Obligations.CycleCommandsMoveAndWrap : Prop :=
  ∀ (gd gs : GReg) (n : Nibble) (s : State),
    let g := s.G gs
    let k := n.toNat
    HasWord (.gcyl gd gs n) (cmdWord 0x44 (nib gd) (nib gs) n 0 0 0) ∧
    HasWord (.gcyr gd gs n) (cmdWord 0x45 (nib gd) (nib gs) n 0 0 0) ∧
    HasWord (.gcyu gd gs n) (cmdWord 0x46 (nib gd) (nib gs) n 0 0 0) ∧
    HasWord (.gcyd gd gs n) (cmdWord 0x47 (nib gd) (nib gs) n 0 0 0) ∧
    (k ≤ 7 →
      (∃ v, exec (.gcyl gd gs n) s = .next (s.setG gd v) ∧ Pixels v fun x y => px g ((x + k) % 8) y) ∧
      (∃ v, exec (.gcyr gd gs n) s = .next (s.setG gd v) ∧ Pixels v fun x y => px g ((x + 8 - k) % 8) y) ∧
      (∃ v, exec (.gcyu gd gs n) s = .next (s.setG gd v) ∧ Pixels v fun x y => px g x ((y + k) % 8)) ∧
      (∃ v, exec (.gcyd gd gs n) s = .next (s.setG gd v) ∧ Pixels v fun x y => px g x ((y + 8 - k) % 8))) ∧
    (7 < k → Faults (.gcyl gd gs n) s .operandRange ∧ Faults (.gcyr gd gs n) s .operandRange ∧
      Faults (.gcyu gd gs n) s .operandRange ∧ Faults (.gcyd gd gs n) s .operandRange)

/-- R155 (the spec's own inferences from R146): the laws of shifts and cycles, and their relations with the
transforms. -/
def Obligations.ShiftAndCycleLaws : Prop :=
  ∀ (g : Word) (n : Nat), n ≤ 7 →
    cyL g n = cyR g ((8 - n) % 8) ∧ cyU g n = cyD g ((8 - n) % 8) ∧
    cyR (cyL g n) n = g ∧ cyD (cyU g n) n = g ∧
    shR (shL g n) n = g &&& rep8 (0xFF#64 >>> n) ∧ shD (shU g n) n = g &&& (0xFFFFFFFFFFFFFFFF#64 >>> (8 * n)) ∧
    glyphMirror (shL g n) = shR (glyphMirror g) n ∧ glyphFlip (shU g n) = shD (glyphFlip g) n ∧
    glyphTranspose (shL g n) = shU (glyphTranspose g) n ∧
    glyphMirror (cyL g n) = cyR (glyphMirror g) n ∧ glyphFlip (cyU g n) = cyD (glyphFlip g) n ∧
    glyphTranspose (cyL g n) = cyU (glyphTranspose g) n

/-! ### Rectangles (spec/46_rect_clipper.md) -/

/-- R162: RNORM makes `w` and `h` non-negative over the same corners, and faults exactly when a result does not fit.
-/
def Obligations.RnormNormalizes : Prop :=
  ∀ (rd rs : RReg) (s : State),
    let q := s.rect rs
    let bad := (q.w < 0 ∧ (q.x + q.w < -(2 ^ 31) ∨ q.w = -(2 ^ 31))) ∨
      (q.h < 0 ∧ (q.y + q.h < -(2 ^ 31) ∨ q.h = -(2 ^ 31)))
    HasWord (.rnorm rd rs) (cmdWord 0x50 (nib rd) (nib rs) 0 0 0 0) ∧
    (bad → Faults (.rnorm rd rs) s .intOverflow) ∧
    (¬bad → ∃ t, exec (.rnorm rd rs) s = .next t ∧ t = s.setR rd (t.R rd) ∧
      (t.rect rd).x = (if q.w < 0 then q.x + q.w else q.x) ∧ (t.rect rd).w = (if q.w < 0 then -q.w else q.w) ∧
      (t.rect rd).y = (if q.h < 0 then q.y + q.h else q.y) ∧ (t.rect rd).h = (if q.h < 0 then -q.h else q.h) ∧
      0 ≤ (t.rect rd).w ∧ 0 ≤ (t.rect rd).h ∧
      ({(t.rect rd).x, (t.rect rd).x + (t.rect rd).w} : Set Int) = {q.x, q.x + q.w} ∧
      ({(t.rect rd).y, (t.rect rd).y + (t.rect rd).h} : Set Int) = {q.y, q.y + q.h} ∧
      (0 ≤ q.w → 0 ≤ q.h → t.R rd = s.R rs))

/-- R163, R164: RTOABS and RTOREG convert between the two encodings, exactly or not at all, and undo each other
whenever neither faults. -/
def Obligations.RtoabsAndRtoregConvert : Prop :=
  ∀ (rd rs re : RReg) (s : State),
    let q := s.rect rs
    HasWord (.rtoabs rd rs) (cmdWord 0x51 (nib rd) (nib rs) 0 0 0 0) ∧
    HasWord (.rtoreg rd rs) (cmdWord 0x52 (nib rd) (nib rs) 0 0 0 0) ∧
    (¬(InI32 (q.x + q.w) ∧ InI32 (q.y + q.h)) → Faults (.rtoabs rd rs) s .intOverflow) ∧
    (¬(InI32 (q.w - q.x) ∧ InI32 (q.h - q.y)) → Faults (.rtoreg rd rs) s .intOverflow) ∧
    (InI32 (q.x + q.w) → InI32 (q.y + q.h) → ∃ t, exec (.rtoabs rd rs) s = .next t ∧ t = s.setR rd (t.R rd) ∧
      t.rect rd = ⟨q.x, q.y, q.x + q.w, q.y + q.h⟩ ∧ exec (.rtoreg re rd) t = .next (t.setR re (s.R rs))) ∧
    (InI32 (q.w - q.x) → InI32 (q.h - q.y) → ∃ t, exec (.rtoreg rd rs) s = .next t ∧ t = s.setR rd (t.R rd) ∧
      t.rect rd = ⟨q.x, q.y, q.w - q.x, q.h - q.y⟩ ∧ exec (.rtoabs re rd) t = .next (t.setR re (s.R rs)))

/-- R166: `Clip` faults exactly on overflow, answers true exactly when the rectangle and the bounds have a cell in
common, and the rectangle it then returns covers exactly the common cells; else it returns the normalized absolute
form. -/
def Obligations.ClipIsTheIntersection : Prop :=
  ∀ (q : IRect) (W H : Int),
    let inside : Int → Int → Prop := fun i j =>
      (min q.x (q.x + q.w) ≤ i ∧ i < max q.x (q.x + q.w)) ∧ (min q.y (q.y + q.h) ≤ j ∧ j < max q.y (q.y + q.h)) ∧
      (0 ≤ i ∧ i < W) ∧ (0 ≤ j ∧ j < H)
    (¬(InI32 (q.x + q.w) ∧ InI32 (q.y + q.h)) → clip q W H = .error .intOverflow) ∧
    (InI32 (q.x + q.w) → InI32 (q.y + q.h) →
      ((¬∃ i j, inside i j) → clip q W H =
        .ok (false, ⟨min q.x (q.x + q.w), min q.y (q.y + q.h), max q.x (q.x + q.w), max q.y (q.y + q.h)⟩)) ∧
      ((∃ i j, inside i j) → ∃ r, clip q W H = .ok (true, r) ∧
        (∀ i j, (r.x ≤ i ∧ i < r.x + r.w ∧ r.y ≤ j ∧ j < r.y + r.h) ↔ inside i j) ∧
        0 ≤ r.x ∧ 0 ≤ r.y ∧ 0 < r.w ∧ r.w ≤ W ∧ 0 < r.h ∧ r.h ≤ H ∧ r.x + r.w ≤ W ∧ r.y + r.h ≤ H))

/-- R168 (the spec's own inference from R166): `Clip` is idempotent on its true results, and leaves a rectangle that
lies inside the bounds as it is up to normalization. -/
def Obligations.ClippedRectanglesStayAsTheyAre : Prop :=
  ∀ (q r : IRect) (W H : Int), clip q W H = .ok (true, r) →
    (W ≤ 2 ^ 31 - 1 → H ≤ 2 ^ 31 - 1 → clip r W H = .ok (true, r)) ∧
    (0 ≤ min q.x (q.x + q.w) → max q.x (q.x + q.w) ≤ W → 0 ≤ min q.y (q.y + q.h) → max q.y (q.y + q.h) ≤ H →
      r = normalizeRect q)

/-- R167: RCLIP stores the clipped rectangle and T, or faults and stores neither; the bounds are the fields `w` and
`h` of `R[rb]`, and all reads come first. -/
def Obligations.RclipStoresTheClippedRectangle : Prop :=
  ∀ (rd rs rb : RReg) (s : State),
    let q := s.rect rs
    HasWord (.rclip rd rs rb) (cmdWord 0x53 (nib rd) (nib rs) (nib rb) 0 0 0) ∧
    (¬(InI32 (q.x + q.w) ∧ InI32 (q.y + q.h)) → Faults (.rclip rd rs rb) s .intOverflow) ∧
    (InI32 (q.x + q.w) → InI32 (q.y + q.h) → ∃ ok r t, clip q (s.rect rb).w (s.rect rb).h = .ok (ok, r) ∧
      exec (.rclip rd rs rb) s = .next t ∧ t = (s.setR rd (t.R rd)).setT ok ∧ t.rect rd = r ∧
      0 ≤ (if ok then r.w else r.w - r.x) ∧ 0 ≤ (if ok then r.h else r.h - r.y))

/-! ### Canvases (spec/47_canvas.md) -/

/-- R182: CADDR returns the address of the cell, exactly, or faults in the order of its tests. -/
def Obligations.CaddrReturnsTheCellAddress : Prop :=
  ∀ (cs : CReg) (rr : RReg) (s : State),
    let c := s.C cs
    let p := s.rect rr
    HasWord (.caddr cs rr) (cmdWord 0x60 (nib cs) (nib rr) 0 0 0 0) ∧
    (¬c.WF → Faults (.caddr cs rr) s .badCanvas) ∧
    (c.WF → (c.IsNull ∨ ¬c.InCells p.x p.y) → Faults (.caddr cs rr) s .canvasBounds) ∧
    (c.WF → ¬c.IsNull → c.InCells p.x p.y → ∃ v : Word, exec (.caddr cs rr) s = .next (s.setRes v.toNat) ∧
      (v.toNat : Int) = c.base.toNat + p.x + p.y * c.stride.toInt ∧
      (v.toNat : Int) ≤ 2 ^ 32 - 1 + (2 ^ 31 - 2) + (2 ^ 31 - 2) * (2 ^ 31 - 1))

/-- R183, R184: the unchecked read and write do exactly what the document says inside their validity condition, and
fault outside it, in the order of their tests. -/
def Obligations.CldgAndCstgAccessTheCell : Prop :=
  ∀ (g : GReg) (cs : CReg) (rr : RReg) (s : State),
    let c := s.C cs
    let p := s.rect rr
    let a := c.cellAddr p.x p.y
    HasWord (.cldg g cs rr) (cmdWord 0x61 (nib g) (nib cs) (nib rr) 0 0 0) ∧
    HasWord (.cstg g cs rr) (cmdWord 0x62 (nib g) (nib cs) (nib rr) 0 0 0) ∧
    (¬c.WF → Faults (.cldg g cs rr) s .badCanvas ∧ Faults (.cstg g cs rr) s .badCanvas) ∧
    (c.WF → (c.IsNull ∨ ¬c.InCells p.x p.y) →
      Faults (.cldg g cs rr) s .canvasBounds ∧ Faults (.cstg g cs rr) s .canvasBounds) ∧
    (c.WF → ¬c.IsNull → c.InCells p.x p.y → ¬c.Fits s.mem.words →
      Faults (.cldg g cs rr) s .memRange ∧ Faults (.cstg g cs rr) s .memRange) ∧
    (c.WF → ¬c.IsNull → c.InCells p.x p.y → c.Fits s.mem.words →
      (0 ≤ a ∧ a < s.mem.words) ∧ exec (.cldg g cs rr) s = .next (s.setG g (s.mem.read a.toNat)) ∧
      ∃ m, exec (.cstg g cs rr) s = .next (s.setMem m) ∧ s.mem.Updated m (fun b => (b : Int) = a) (s.G g))

/-- R185, R186: the checked read and write; outside the canvas they complete with T = 0, the read giving 0 and the
write changing nothing. -/
def Obligations.CatAndCputAreBoundsChecked : Prop :=
  ∀ (g : GReg) (cs : CReg) (rr : RReg) (s : State),
    let c := s.C cs
    let p := s.rect rr
    let a := c.cellAddr p.x p.y
    HasWord (.cat g cs rr) (cmdWord 0x63 (nib g) (nib cs) (nib rr) 0 0 0) ∧
    HasWord (.cput g cs rr) (cmdWord 0x64 (nib g) (nib cs) (nib rr) 0 0 0) ∧
    (¬c.WF → Faults (.cat g cs rr) s .badCanvas ∧ Faults (.cput g cs rr) s .badCanvas) ∧
    (c.WF → ¬c.Fits s.mem.words → Faults (.cat g cs rr) s .memRange ∧ Faults (.cput g cs rr) s .memRange) ∧
    (c.WF → c.Fits s.mem.words → (c.IsNull ∨ ¬c.InCells p.x p.y) →
      exec (.cat g cs rr) s = .next ((s.setG g 0).setT false) ∧ exec (.cput g cs rr) s = .next (s.setT false)) ∧
    (c.WF → c.Fits s.mem.words → ¬c.IsNull → c.InCells p.x p.y →
      (0 ≤ a ∧ a < s.mem.words) ∧ exec (.cat g cs rr) s = .next ((s.setG g (s.mem.read a.toNat)).setT true) ∧
      ∃ m, exec (.cput g cs rr) s = .next ((s.setMem m).setT true) ∧
        s.mem.Updated m (fun b => (b : Int) = a) (s.G g))

/-- R187: CISNULL tests a well-formed canvas; a malformed one faults. -/
def Obligations.CisnullTestsTheCanvas : Prop :=
  (∀ (cs : CReg) (s : State),
    let c := s.C cs
    HasWord (.cisnull cs) (cmdWord 0x65 (nib cs) 0 0 0 0 0) ∧
    (¬c.WF → Faults (.cisnull cs) s .badCanvas) ∧
    (c.WF → c.v = false ∨ c.width = 0 ∨ c.height = 0 → exec (.cisnull cs) s = .next (s.setT true)) ∧
    (c.WF → ¬(c.v = false ∨ c.width = 0 ∨ c.height = 0) → exec (.cisnull cs) s = .next (s.setT false)) ∧
    (c.WF → c.v = false → c.width = 0 ∧ c.height = 0)) ∧
  exec (.cisnull 1) State.reset = .next (State.reset.setT true) ∧
  exec (.cisnull 0) State.reset = .next (State.reset.setT false)

/-- R190: CCROP makes a view of the same words with the parent's stride, well-formed, fitting when the parent fits,
whose cell `(i, j)` is the parent's cell `(x' + i, y' + j)`; with no intersection it makes NULLC and T = 0. -/
def Obligations.CcropMakesAViewOfTheSameWords : Prop :=
  ∀ (cd cs : CReg) (rr : RReg) (s : State),
    let c := s.C cs
    let q := s.rect rr
    let W := c.width.toInt
    let H := c.height.toInt
    HasWord (.ccrop cd cs rr) (cmdWord 0x66 (nib cd) (nib cs) (nib rr) 0 0 0) ∧
    (¬c.WF → Faults (.ccrop cd cs rr) s .badCanvas) ∧
    (c.WF → ¬(InI32 (q.x + q.w) ∧ InI32 (q.y + q.h)) → Faults (.ccrop cd cs rr) s .intOverflow) ∧
    (∀ r, c.WF → clip q W H = .ok (false, r) →
      exec (.ccrop cd cs rr) s = .next ((s.setC cd ⟨false, 0, 0, 0, 0⟩).setT false)) ∧
    (c.WF → InI32 (q.x + q.w) → InI32 (q.y + q.h) → c.IsNull → ∃ r, clip q W H = .ok (false, r)) ∧
    (∀ r, c.WF → clip q W H = .ok (true, r) → 2 ^ 32 ≤ c.base.toNat + r.x + r.y * c.stride.toInt →
      Faults (.ccrop cd cs rr) s .intOverflow) ∧
    (∀ r, c.WF → clip q W H = .ok (true, r) → c.base.toNat + r.x + r.y * c.stride.toInt < 2 ^ 32 →
      ∃ d : Canvas, exec (.ccrop cd cs rr) s = .next ((s.setC cd d).setT true) ∧
        d.v = true ∧ (d.base.toNat : Int) = c.base.toNat + r.x + r.y * c.stride.toInt ∧
        d.width.toInt = r.w ∧ d.height.toInt = r.h ∧ d.stride = c.stride ∧ c.v = true ∧
        d.WF ∧ (c.Fits s.mem.words → d.Fits s.mem.words) ∧
        ∀ i j, d.InCells i j → c.InCells (r.x + i) (r.y + j) ∧ d.cellAddr i j = c.cellAddr (r.x + i) (r.y + j))

/-- R191: CFILL writes the glyph to every cell of the canvas and to no other word; a canvas with no cell is no error.
-/
def Obligations.CfillFillsEveryCell : Prop :=
  ∀ (cs : CReg) (gs : GReg) (s : State),
    let c := s.C cs
    HasWord (.cfill cs gs) (cmdWord 0x67 (nib cs) (nib gs) 0 0 0 0) ∧
    (¬c.WF → Faults (.cfill cs gs) s .badCanvas) ∧
    (c.WF → ¬c.Fits s.mem.words → Faults (.cfill cs gs) s .memRange) ∧
    (c.WF → c.Fits s.mem.words → ∃ m, exec (.cfill cs gs) s = .next (s.setMem m) ∧
      s.mem.Updated m (fun a => ∃ x y, c.InCells x y ∧ c.cellAddr x y = a) (s.G gs))

/-- R192, R193: CPLOT sets one pixel of one word when the pixel lies inside the canvas, and says so in T. -/
def Obligations.CplotSetsOnePixel : Prop :=
  ∀ (cs : CReg) (rr : RReg) (s : State),
    let c := s.C cs
    let p := s.rect rr
    let a := c.cellAddr (p.x / 8) (p.y / 8)
    HasWord (.cplot cs rr) (cmdWord 0x68 (nib cs) (nib rr) 0 0 0 0) ∧
    (¬c.WF → Faults (.cplot cs rr) s .badCanvas) ∧
    (c.WF → ¬c.Fits s.mem.words → Faults (.cplot cs rr) s .memRange) ∧
    (c.WF → c.Fits s.mem.words → ¬c.InPixels p.x p.y → exec (.cplot cs rr) s = .next (s.setT false)) ∧
    (c.WF → c.Fits s.mem.words → c.InPixels p.x p.y → (0 ≤ a ∧ a < s.mem.words) ∧
      ∃ m, exec (.cplot cs rr) s = .next ((s.setMem m).setT true) ∧
        s.mem.Updated m (fun b => (b : Int) = a)
          (s.mem.read a.toNat ||| BitVec.ofNat 64 (2 ^ (63 - (p.x % 8).toNat - 8 * (p.y % 8).toNat))))

/-- R195 (the spec's own inference from R196) and the examples of R196: the points of the reference stepper. The
stepper's tie-breaking is the spec's own, from general knowledge (K2, D22; log 7). -/
def Obligations.LineVisitsEachPointOnce : Prop :=
  (∀ x0 y0 x1 y1 : Int,
    let ps := lineSeq x0 y0 x1 y1
    let dx := (x1 - x0).natAbs
    let dy := (y1 - y0).natAbs
    let sx : Int := if x0 < x1 then 1 else -1
    let sy : Int := if y0 < y1 then 1 else -1
    ps.head? = some (x0, y0) ∧ ps.getLast? = some (x1, y1) ∧ ps.Nodup ∧ ps.length = max dx dy + 1 ∧
    (∀ (k : Nat) (p q : Int × Int), ps[k]? = some p → ps[k + 1]? = some q →
      (q.1 = p.1 + sx ∨ (q.1 = p.1 ∧ dx < dy)) ∧ (q.2 = p.2 + sy ∨ (q.2 = p.2 ∧ dy < dx))) ∧
    (dx = dy → ∀ k, k ≤ dx → ps[k]? = some (x0 + k * sx, y0 + k * sy)) ∧
    (dy = 0 → ∀ k, k ≤ dx → ps[k]? = some (x0 + k * sx, y0)) ∧
    (dx = 0 → ∀ k, k ≤ dy → ps[k]? = some (x0, y0 + k * sy))) ∧
  lineSeq 0 0 5 2 = [(0, 0), (1, 0), (2, 1), (3, 1), (4, 2), (5, 2)] ∧
  lineSeq 0 0 2 5 = [(0, 0), (0, 1), (1, 2), (1, 3), (2, 4), (2, 5)] ∧
  lineSeq 3 1 0 0 = [(3, 1), (2, 1), (1, 0), (0, 0)] ∧
  lineSeq 0 0 6 4 = [(0, 0), (1, 1), (2, 1), (3, 2), (4, 3), (5, 3), (6, 4)] ∧
  lineSeq 2 2 2 2 = [(2, 2)] ∧ lineSeq 2 1 0 0 ≠ (lineSeq 0 0 2 1).reverse

/-- R197: CLINE sets exactly the pixels of its points that lie inside the canvas, and changes nothing else. Which
points those are is R196's reference stepper, the spec's own choice (log 7). -/
def Obligations.ClineSetsThePixelsOfTheLine : Prop :=
  ∀ (cs : CReg) (rr : RReg) (s : State),
    let c := s.C cs
    let q := s.rect rr
    HasWord (.cline cs rr) (cmdWord 0x69 (nib cs) (nib rr) 0 0 0 0) ∧
    (¬c.WF → Faults (.cline cs rr) s .badCanvas) ∧
    (c.WF → ¬c.Fits s.mem.words → Faults (.cline cs rr) s .memRange) ∧
    (c.WF → c.Fits s.mem.words → ∃ m, exec (.cline cs rr) s = .next (s.setMem m) ∧
      m.words = s.mem.words ∧ m.powerOn = s.mem.powerOn ∧
      ∀ a i, (m.read a).getLsbD i = true ↔ (s.mem.read a).getLsbD i = true ∨
        ∃ p ∈ lineSeq q.x q.y q.w q.h, c.InPixels p.1 p.2 ∧ c.cellAddr (p.1 / 8) (p.2 / 8) = a ∧
          63 - (p.1 % 8).toNat - 8 * (p.2 % 8).toNat = i)

end Statements
end

