-- ==== Sys2Proof/Laws/Config.lean ====
section
/-! SUPPORT. The open parameters are legal, whatever they are (spec/00_scope.md R7), and no legal set is excluded. -/

namespace Sys2Proof

theorem Config.clamp_bounds {lo hi : Nat} (h : lo ≤ hi) (n : Nat) :
    lo ≤ Config.clamp lo hi n ∧ Config.clamp lo hi n ≤ hi := by
  unfold Config.clamp; omega

/-- A legal request is granted as it stands. -/
theorem Config.clamp_of_legal {lo hi n : Nat} (h : lo ≤ n ∧ n ≤ hi) : Config.clamp lo hi n = n := by
  unfold Config.clamp; omega

theorem Config.memWords_bounds : 1 ≤ Config.memWords ∧ Config.memWords ≤ 2 ^ 32 :=
  Config.clamp_bounds (by decide) _

theorem Config.screenW_bounds :
    1 ≤ Config.screenW ∧ Config.screenW ≤ 2 ^ 31 - 1 ∧ Config.screenW ≤ Config.memWords := by
  have h1 := Config.memWords_bounds
  have h : 1 ≤ min (2 ^ 31 - 1) Config.memWords := by omega
  have := Config.clamp_bounds h Config.rawScreenW
  unfold Config.screenW
  omega

/-- The parameters of `State.reset` are a legal set (R7). -/
theorem Config.params_legal : Machine.ParamsLegal Config.memWords Config.screenW Config.screenH := by
  have h1 := Config.memWords_bounds
  have h2 := Config.screenW_bounds
  have hdiv : 1 ≤ Config.memWords / Config.screenW :=
    (Nat.one_le_div_iff (by omega)).2 h2.2.2
  have h : 1 ≤ min (2 ^ 31 - 1) (Config.memWords / Config.screenW) := by omega
  have h3 := Config.clamp_bounds h Config.rawScreenH
  refine ⟨h1, ⟨h2.1, h2.2.1⟩, ⟨h3.1, by unfold Config.screenH; omega⟩, ?_⟩
  have h4 : Config.screenH ≤ Config.memWords / Config.screenW := by unfold Config.screenH; omega
  calc Config.screenW * Config.screenH ≤ Config.screenW * (Config.memWords / Config.screenW) :=
        Nat.mul_le_mul_left _ h4
    _ ≤ Config.memWords := Nat.mul_div_le _ _

end Sys2Proof
end

