-- ==== Sys2Proof/Laws/Encoding.lean ====
section
/-! SUPPORT. The seven fields of a command word: reading a field of a word made from fields, and making a word from its
fields. Proofs about `encode` and `decode` cite these and never unfold a bit extraction. -/

namespace Sys2Proof

theorem toNat_append_nibble {n : Nat} (x : BitVec n) (y : Nibble) : (x ++ y).toNat = x.toNat * 16 + y.toNat := by
  rw [BitVec.toNat_append, ← Nat.shiftLeft_add_eq_or_of_lt y.isLt, Nat.shiftLeft_eq]

theorem cmdWord_toNat (op : BitVec 8) (a b c d e f : Nibble) :
    (cmdWord op a b c d e f).toNat =
      op.toNat * 2 ^ 24 + a.toNat * 2 ^ 20 + b.toNat * 2 ^ 16 + c.toNat * 2 ^ 12 + d.toNat * 2 ^ 8 + e.toNat * 2 ^ 4 +
        f.toNat := by
  unfold cmdWord
  simp only [toNat_append_nibble]
  ring

section Fields
variable (op : BitVec 8) (a b c d e f : Nibble)

@[simp] theorem opOf_cmdWord : opOf (cmdWord op a b c d e f) = op := by
  apply BitVec.eq_of_toNat_eq
  simp only [opOf, BitVec.extractLsb'_toNat, cmdWord_toNat, Nat.shiftRight_eq_div_pow]
  omega

@[simp] theorem faOf_cmdWord : faOf (cmdWord op a b c d e f) = a := by
  apply BitVec.eq_of_toNat_eq
  simp only [faOf, BitVec.extractLsb'_toNat, cmdWord_toNat, Nat.shiftRight_eq_div_pow]
  omega

@[simp] theorem fbOf_cmdWord : fbOf (cmdWord op a b c d e f) = b := by
  apply BitVec.eq_of_toNat_eq
  simp only [fbOf, BitVec.extractLsb'_toNat, cmdWord_toNat, Nat.shiftRight_eq_div_pow]
  omega

@[simp] theorem fcOf_cmdWord : fcOf (cmdWord op a b c d e f) = c := by
  apply BitVec.eq_of_toNat_eq
  simp only [fcOf, BitVec.extractLsb'_toNat, cmdWord_toNat, Nat.shiftRight_eq_div_pow]
  omega

@[simp] theorem fdOf_cmdWord : fdOf (cmdWord op a b c d e f) = d := by
  apply BitVec.eq_of_toNat_eq
  simp only [fdOf, BitVec.extractLsb'_toNat, cmdWord_toNat, Nat.shiftRight_eq_div_pow]
  omega

@[simp] theorem feOf_cmdWord : feOf (cmdWord op a b c d e f) = e := by
  apply BitVec.eq_of_toNat_eq
  simp only [feOf, BitVec.extractLsb'_toNat, cmdWord_toNat, Nat.shiftRight_eq_div_pow]
  omega

@[simp] theorem ffOf_cmdWord : ffOf (cmdWord op a b c d e f) = f := by
  apply BitVec.eq_of_toNat_eq
  simp only [ffOf, BitVec.extractLsb'_toNat, cmdWord_toNat, Nat.shiftRight_eq_div_pow]
  omega

end Fields

/-- A word is made of its seven fields (R61). -/
theorem cmdWord_fields (w : CmdWord) :
    cmdWord (opOf w) (faOf w) (fbOf w) (fcOf w) (fdOf w) (feOf w) (ffOf w) = w := by
  apply BitVec.eq_of_toNat_eq
  simp only [cmdWord_toNat, opOf, faOf, fbOf, fcOf, fdOf, feOf, ffOf, BitVec.extractLsb'_toNat,
    Nat.shiftRight_eq_div_pow]
  omega

/-- Masking is field by field. -/
theorem cmdWord_and (op op' : BitVec 8) (a b c d e f a' b' c' d' e' f' : Nibble) :
    cmdWord op a b c d e f &&& cmdWord op' a' b' c' d' e' f' =
      cmdWord (op &&& op') (a &&& a') (b &&& b') (c &&& c') (d &&& d') (e &&& e') (f &&& f') := by
  have h {n : Nat} (x x' : BitVec n) (y y' : Nibble) : (x ++ y) &&& (x' ++ y') = (x &&& x') ++ (y &&& y') :=
    BitVec.and_append
  unfold cmdWord
  rw [← h, ← h, ← h, ← h, ← h, ← h]

/-- Two words are equal when their fields are. -/
theorem cmdWord_inj {op op' : BitVec 8} {a b c d e f a' b' c' d' e' f' : Nibble} :
    cmdWord op a b c d e f = cmdWord op' a' b' c' d' e' f' ↔
      op = op' ∧ a = a' ∧ b = b' ∧ c = c' ∧ d = d' ∧ e = e' ∧ f = f' := by
  constructor
  · intro h
    refine ⟨?_, ?_, ?_, ?_, ?_, ?_, ?_⟩
    · simpa using congrArg opOf h
    · simpa using congrArg faOf h
    · simpa using congrArg fbOf h
    · simpa using congrArg fcOf h
    · simpa using congrArg fdOf h
    · simpa using congrArg feOf h
    · simpa using congrArg ffOf h
  · rintro ⟨rfl, rfl, rfl, rfl, rfl, rfl, rfl⟩
    rfl

/-! ### Register fields -/

@[simp] theorem gField_nib (g : GReg) (k : GReg → Except DecodeError Instr) : gField (nib g) k = k g := by
  have h : (nib g).toNat = g.val := by simp [nib]; omega
  simp [gField, h]

@[simp] theorem rField_nib (r : RReg) (k : RReg → Except DecodeError Instr) : rField (nib r) k = k r := by
  have h : (nib r).toNat = r.val := by simp [nib]; omega
  simp [rField, h]

@[simp] theorem cField_nib (c : CReg) (k : CReg → Except DecodeError Instr) : cField (nib c) k = k c := by
  have h : (nib c).toNat = c.val := by simp [nib]; omega
  simp [cField, h]

/-- A glyph register field that is accepted is the index it holds. -/
theorem gField_eq_ok {f : Nibble} {k : GReg → Except DecodeError Instr} {i : Instr} (h : gField f k = .ok i) :
    ∃ g, f = nib g ∧ k g = .ok i := by
  unfold gField at h
  split at h
  · exact ⟨_, by simp [nib], h⟩
  · cases h

/-- A rectangle register field that is accepted is the index it holds. -/
theorem rField_eq_ok {f : Nibble} {k : RReg → Except DecodeError Instr} {i : Instr} (h : rField f k = .ok i) :
    ∃ r, f = nib r ∧ k r = .ok i := by
  unfold rField at h
  split at h
  · exact ⟨_, by simp [nib], h⟩
  · cases h

/-- A canvas register field that is accepted is the index it holds. -/
theorem cField_eq_ok {f : Nibble} {k : CReg → Except DecodeError Instr} {i : Instr} (h : cField f k = .ok i) :
    ∃ c, f = nib c ∧ k c = .ok i := by
  unfold cField at h
  split at h
  · exact ⟨_, by simp [nib], h⟩
  · cases h

/-- The unused fields of an accepted word are 0. -/
theorem unused_eq_ok {fs : List Nibble} {k : Except DecodeError Instr} {i : Instr} (h : unused fs k = .ok i) :
    (∀ f ∈ fs, f = 0) ∧ k = .ok i := by
  unfold unused at h
  split at h
  · rename_i hf
    exact ⟨by simpa using hf, h⟩
  · cases h

theorem selector_eq_ok {f : Nibble} {k : Except DecodeError Instr} {i : Instr} (h : selector f k = .ok i) :
    f.toNat < 7 ∧ k = .ok i := by
  unfold selector at h
  split at h
  · exact ⟨by assumption, h⟩
  · cases h

/-- Bit 3 of a glyph register field is 0 (R62). -/
theorem nib_and_8 (g : GReg) : nib g &&& 8 = 0 := by
  revert g; decide

/-- Bits 3:2 of a rectangle or canvas register field are 0 (R62). -/
theorem nib_and_12 (r : Fin 4) : nib r &&& 12 = 0 := by
  revert r; decide

end Sys2Proof
end

