-- ==== Sys2Proof/Laws/Memory.lean ====
section
/-! SUPPORT. MEM as a list of cells: reading after a write, and the canonical form. The laws of reading need no
canonical form, so they hold in every state. -/

namespace Sys2Proof.Machine

theorem cellAt_putCell (a b : Nat) (v : Word) (l : List MemCell) :
    cellAt b (putCell a v l) = if b = a then some v else cellAt b l := by
  induction l with
  | nil => simp [putCell, cellAt]
  | cons p t ih =>
    obtain ⟨d, u⟩ := p
    by_cases h1 : a < d
    · simp [putCell, h1, cellAt]
    · by_cases h2 : a = d
      · subst h2
        by_cases h : b = a <;> simp [putCell, cellAt, h]
      · by_cases h : b = d
        · subst h
          simp [putCell, h1, h2, cellAt, Ne.symm h2]
        · simp [putCell, h1, h2, cellAt, h, ih]

theorem cellAt_dropCell (a b : Nat) (l : List MemCell) :
    cellAt b (dropCell a l) = if b = a then none else cellAt b l := by
  induction l with
  | nil => simp [dropCell, cellAt]
  | cons p t ih =>
    obtain ⟨d, u⟩ := p
    by_cases h2 : a = d
    · subst h2
      by_cases h : b = a
      · subst h; simpa [dropCell] using ih
      · simp [dropCell, cellAt, ih, h]
    · by_cases h : b = d
      · subst h
        simp [dropCell, h2, cellAt, Ne.symm h2]
      · simp [dropCell, h2, cellAt, h, ih]

@[simp] theorem Memory.write_words (m : Memory) (a : Nat) (v : Word) : (m.write a v).words = m.words := by
  unfold Memory.write; split <;> rfl

@[simp] theorem Memory.write_powerOn (m : Memory) (a : Nat) (v : Word) : (m.write a v).powerOn = m.powerOn := by
  unfold Memory.write; split <;> rfl

@[simp] theorem Memory.write_unlisted (m : Memory) (a : Nat) (v : Word) (b : Nat) :
    (m.write a v).unlisted b = m.unlisted b := by
  simp [Memory.unlisted]

/-- Read after write: the written address gives the value, every other address what it gave. -/
theorem Memory.read_write (m : Memory) (a b : Nat) (v : Word) :
    (m.write a v).read b = if b = a then v else m.read b := by
  by_cases hv : v = m.unlisted a
  · have h : (m.write a v).cells = dropCell a m.cells := by simp [Memory.write, hv]
    by_cases hb : b = a
    · subst hb
      rw [Memory.read, h, cellAt_dropCell, if_pos rfl, if_pos rfl, Option.getD_none, Memory.write_unlisted, hv]
    · simp [Memory.read, h, cellAt_dropCell, hb]
  · have h : (m.write a v).cells = putCell a v m.cells := by simp [Memory.write, hv]
    by_cases hb : b = a
    · subst hb
      simp [Memory.read, h, cellAt_putCell]
    · simp [Memory.read, h, cellAt_putCell, hb]

@[simp] theorem Memory.read_write_self (m : Memory) (a : Nat) (v : Word) : (m.write a v).read a = v := by
  simp [Memory.read_write]

theorem Memory.read_write_ne (m : Memory) {a b : Nat} (v : Word) (h : b ≠ a) : (m.write a v).read b = m.read b := by
  simp [Memory.read_write, h]

/-! ### The canonical form -/

theorem mem_dropCell {a : Nat} {l : List MemCell} {p : MemCell} (h : p ∈ dropCell a l) : p ∈ l ∧ p.1 ≠ a := by
  induction l with
  | nil => simp [dropCell] at h
  | cons q t ih =>
    obtain ⟨d, u⟩ := q
    by_cases hd : a = d
    · simp only [dropCell, hd, if_true] at h
      subst hd
      exact ⟨List.mem_cons_of_mem _ (ih h).1, (ih h).2⟩
    · simp only [dropCell, hd, if_false, List.mem_cons] at h
      rcases h with rfl | h
      · exact ⟨by simp, Ne.symm hd⟩
      · exact ⟨List.mem_cons_of_mem _ (ih h).1, (ih h).2⟩

theorem mem_putCell {a : Nat} {v : Word} {l : List MemCell} {p : MemCell} (h : p ∈ putCell a v l) :
    p = (a, v) ∨ p ∈ l := by
  induction l with
  | nil => simpa [putCell] using h
  | cons q t ih =>
    obtain ⟨d, u⟩ := q
    simp only [putCell] at h
    split at h
    · simpa using h
    · split at h
      · simp only [List.mem_cons] at h ⊢
        tauto
      · simp only [List.mem_cons] at h ⊢
        rcases h with h | h
        · exact .inr (.inl h)
        · exact (ih h).imp_right .inr

theorem pairwise_dropCell {a : Nat} {l : List MemCell} (h : l.Pairwise (fun p q => p.1 < q.1)) :
    (dropCell a l).Pairwise (fun p q => p.1 < q.1) := by
  induction l with
  | nil => simp [dropCell]
  | cons q t ih =>
    obtain ⟨d, u⟩ := q
    rw [List.pairwise_cons] at h
    by_cases hd : a = d
    · simpa [dropCell, hd] using hd ▸ ih h.2
    · simp only [dropCell, hd, if_false, List.pairwise_cons]
      exact ⟨fun p hp => h.1 p (mem_dropCell hp).1, ih h.2⟩

theorem pairwise_putCell {a : Nat} {v : Word} {l : List MemCell} (h : l.Pairwise (fun p q => p.1 < q.1)) :
    (putCell a v l).Pairwise (fun p q => p.1 < q.1) := by
  induction l with
  | nil => simp [putCell]
  | cons q t ih =>
    obtain ⟨d, u⟩ := q
    have h' := List.pairwise_cons.1 h
    simp only [putCell]
    split
    · rename_i hlt
      refine List.pairwise_cons.2 ⟨fun p hp => ?_, h⟩
      rcases List.mem_cons.1 hp with rfl | hp
      · exact hlt
      · exact Nat.lt_trans hlt (h'.1 p hp)
    · split
      · rename_i heq
        subst heq
        exact List.pairwise_cons.2 ⟨h'.1, h'.2⟩
      · rename_i hlt hne
        refine List.pairwise_cons.2 ⟨fun p hp => ?_, ih h'.2⟩
        rcases mem_putCell hp with rfl | hp
        · simp only; omega
        · exact h'.1 p hp

/-- Every write inside MEM keeps the canonical form. -/
theorem Memory.write_WF {m : Memory} (h : m.WF) {a : Nat} (ha : a < m.words) (v : Word) : (m.write a v).WF := by
  obtain ⟨hs, hc⟩ := h
  by_cases hv : v = m.unlisted a
  · have hcells : (m.write a v).cells = dropCell a m.cells := by simp [Memory.write, hv]
    refine ⟨hcells ▸ pairwise_dropCell hs, fun p hp => ?_⟩
    rw [hcells] at hp
    simpa using hc p (mem_dropCell hp).1
  · have hcells : (m.write a v).cells = putCell a v m.cells := by simp [Memory.write, hv]
    refine ⟨hcells ▸ pairwise_putCell hs, fun p hp => ?_⟩
    rw [hcells] at hp
    rcases mem_putCell hp with rfl | hp
    · simpa using ⟨ha, hv⟩
    · simpa using hc p hp

/-- A memory that lists nothing is canonical. -/
theorem Memory.WF_nil (n : Nat) (p : PowerOn) : (Memory.mk n p []).WF :=
  ⟨List.Pairwise.nil, fun _ h => nomatch h⟩

end Sys2Proof.Machine
end

