-- ==== Sys2Proof/Laws/State.lean ====
section
/-! SUPPORT. One lemma per field per update of the state, all true by rfl and tagged simp: no later proof unfolds a
record update. Then the register reads after a register write, and reads through updates of other fields. -/

namespace Sys2Proof.Machine

/-! ### setG -/

@[simp] theorem State.setG_g (s : State) (i : GReg) (v : Word) : (s.setG i v).g = s.g.set i v := rfl
@[simp] theorem State.setG_r (s : State) (i : GReg) (v : Word) : (s.setG i v).r = s.r := rfl
@[simp] theorem State.setG_c (s : State) (i : GReg) (v : Word) : (s.setG i v).c = s.c := rfl
@[simp] theorem State.setG_t (s : State) (i : GReg) (v : Word) : (s.setG i v).t = s.t := rfl
@[simp] theorem State.setG_fault (s : State) (i : GReg) (v : Word) : (s.setG i v).fault = s.fault := rfl
@[simp] theorem State.setG_cause (s : State) (i : GReg) (v : Word) : (s.setG i v).cause = s.cause := rfl
@[simp] theorem State.setG_info (s : State) (i : GReg) (v : Word) : (s.setG i v).info = s.info := rfl
@[simp] theorem State.setG_src (s : State) (i : GReg) (v : Word) : (s.setG i v).src = s.src := rfl
@[simp] theorem State.setG_res (s : State) (i : GReg) (v : Word) : (s.setG i v).res = s.res := rfl
@[simp] theorem State.setG_mem (s : State) (i : GReg) (v : Word) : (s.setG i v).mem = s.mem := rfl
@[simp] theorem State.setG_screen (s : State) (i : GReg) (v : Word) : (s.setG i v).screen = s.screen := rfl
@[simp] theorem State.setG_host (s : State) (i : GReg) (v : Word) : (s.setG i v).host = s.host := rfl
@[simp] theorem State.setG_rsp (s : State) (i : GReg) (v : Word) : (s.setG i v).rsp = s.rsp := rfl
@[simp] theorem State.setG_R (s : State) (i : GReg) (v : Word) (j : RReg) : (s.setG i v).R j = s.R j := rfl
@[simp] theorem State.setG_C (s : State) (i : GReg) (v : Word) (j : CReg) : (s.setG i v).C j = s.C j := rfl
@[simp] theorem State.setG_rect (s : State) (i : GReg) (v : Word) (j : RReg) : (s.setG i v).rect j = s.rect j := rfl

/-! ### setR -/

@[simp] theorem State.setR_g (s : State) (i : RReg) (q : Rect) : (s.setR i q).g = s.g := rfl
@[simp] theorem State.setR_r (s : State) (i : RReg) (q : Rect) : (s.setR i q).r = s.r.set i q := rfl
@[simp] theorem State.setR_c (s : State) (i : RReg) (q : Rect) : (s.setR i q).c = s.c := rfl
@[simp] theorem State.setR_t (s : State) (i : RReg) (q : Rect) : (s.setR i q).t = s.t := rfl
@[simp] theorem State.setR_fault (s : State) (i : RReg) (q : Rect) : (s.setR i q).fault = s.fault := rfl
@[simp] theorem State.setR_cause (s : State) (i : RReg) (q : Rect) : (s.setR i q).cause = s.cause := rfl
@[simp] theorem State.setR_info (s : State) (i : RReg) (q : Rect) : (s.setR i q).info = s.info := rfl
@[simp] theorem State.setR_src (s : State) (i : RReg) (q : Rect) : (s.setR i q).src = s.src := rfl
@[simp] theorem State.setR_res (s : State) (i : RReg) (q : Rect) : (s.setR i q).res = s.res := rfl
@[simp] theorem State.setR_mem (s : State) (i : RReg) (q : Rect) : (s.setR i q).mem = s.mem := rfl
@[simp] theorem State.setR_screen (s : State) (i : RReg) (q : Rect) : (s.setR i q).screen = s.screen := rfl
@[simp] theorem State.setR_host (s : State) (i : RReg) (q : Rect) : (s.setR i q).host = s.host := rfl
@[simp] theorem State.setR_rsp (s : State) (i : RReg) (q : Rect) : (s.setR i q).rsp = s.rsp := rfl
@[simp] theorem State.setR_G (s : State) (i : RReg) (q : Rect) (j : GReg) : (s.setR i q).G j = s.G j := rfl
@[simp] theorem State.setR_C (s : State) (i : RReg) (q : Rect) (j : CReg) : (s.setR i q).C j = s.C j := rfl
@[simp] theorem State.setR_quad (s : State) (i : RReg) (q : Rect) (j : GReg) : (s.setR i q).quad j = s.quad j := rfl

/-! ### setC -/

@[simp] theorem State.setC_g (s : State) (i : CReg) (d : Canvas) : (s.setC i d).g = s.g := rfl
@[simp] theorem State.setC_r (s : State) (i : CReg) (d : Canvas) : (s.setC i d).r = s.r := rfl
@[simp] theorem State.setC_c (s : State) (i : CReg) (d : Canvas) : (s.setC i d).c = s.c.set i d := rfl
@[simp] theorem State.setC_t (s : State) (i : CReg) (d : Canvas) : (s.setC i d).t = s.t := rfl
@[simp] theorem State.setC_fault (s : State) (i : CReg) (d : Canvas) : (s.setC i d).fault = s.fault := rfl
@[simp] theorem State.setC_cause (s : State) (i : CReg) (d : Canvas) : (s.setC i d).cause = s.cause := rfl
@[simp] theorem State.setC_info (s : State) (i : CReg) (d : Canvas) : (s.setC i d).info = s.info := rfl
@[simp] theorem State.setC_src (s : State) (i : CReg) (d : Canvas) : (s.setC i d).src = s.src := rfl
@[simp] theorem State.setC_res (s : State) (i : CReg) (d : Canvas) : (s.setC i d).res = s.res := rfl
@[simp] theorem State.setC_mem (s : State) (i : CReg) (d : Canvas) : (s.setC i d).mem = s.mem := rfl
@[simp] theorem State.setC_screen (s : State) (i : CReg) (d : Canvas) : (s.setC i d).screen = s.screen := rfl
@[simp] theorem State.setC_host (s : State) (i : CReg) (d : Canvas) : (s.setC i d).host = s.host := rfl
@[simp] theorem State.setC_rsp (s : State) (i : CReg) (d : Canvas) : (s.setC i d).rsp = s.rsp := rfl
@[simp] theorem State.setC_G (s : State) (i : CReg) (d : Canvas) (j : GReg) : (s.setC i d).G j = s.G j := rfl
@[simp] theorem State.setC_R (s : State) (i : CReg) (d : Canvas) (j : RReg) : (s.setC i d).R j = s.R j := rfl
@[simp] theorem State.setC_rect (s : State) (i : CReg) (d : Canvas) (j : RReg) : (s.setC i d).rect j = s.rect j := rfl
@[simp] theorem State.setC_quad (s : State) (i : CReg) (d : Canvas) (j : GReg) : (s.setC i d).quad j = s.quad j := rfl

/-! ### setT -/

@[simp] theorem State.setT_g (s : State) (b : Bool) : (s.setT b).g = s.g := rfl
@[simp] theorem State.setT_r (s : State) (b : Bool) : (s.setT b).r = s.r := rfl
@[simp] theorem State.setT_c (s : State) (b : Bool) : (s.setT b).c = s.c := rfl
@[simp] theorem State.setT_t (s : State) (b : Bool) : (s.setT b).t = b := rfl
@[simp] theorem State.setT_fault (s : State) (b : Bool) : (s.setT b).fault = s.fault := rfl
@[simp] theorem State.setT_cause (s : State) (b : Bool) : (s.setT b).cause = s.cause := rfl
@[simp] theorem State.setT_info (s : State) (b : Bool) : (s.setT b).info = s.info := rfl
@[simp] theorem State.setT_src (s : State) (b : Bool) : (s.setT b).src = s.src := rfl
@[simp] theorem State.setT_res (s : State) (b : Bool) : (s.setT b).res = s.res := rfl
@[simp] theorem State.setT_mem (s : State) (b : Bool) : (s.setT b).mem = s.mem := rfl
@[simp] theorem State.setT_screen (s : State) (b : Bool) : (s.setT b).screen = s.screen := rfl
@[simp] theorem State.setT_host (s : State) (b : Bool) : (s.setT b).host = s.host := rfl
@[simp] theorem State.setT_rsp (s : State) (b : Bool) : (s.setT b).rsp = s.rsp := rfl
@[simp] theorem State.setT_G (s : State) (b : Bool) (j : GReg) : (s.setT b).G j = s.G j := rfl
@[simp] theorem State.setT_R (s : State) (b : Bool) (j : RReg) : (s.setT b).R j = s.R j := rfl
@[simp] theorem State.setT_C (s : State) (b : Bool) (j : CReg) : (s.setT b).C j = s.C j := rfl
@[simp] theorem State.setT_rect (s : State) (b : Bool) (j : RReg) : (s.setT b).rect j = s.rect j := rfl
@[simp] theorem State.setT_quad (s : State) (b : Bool) (j : GReg) : (s.setT b).quad j = s.quad j := rfl

/-! ### setRes -/

@[simp] theorem State.setRes_g (s : State) (v : Int) : (s.setRes v).g = s.g := rfl
@[simp] theorem State.setRes_r (s : State) (v : Int) : (s.setRes v).r = s.r := rfl
@[simp] theorem State.setRes_c (s : State) (v : Int) : (s.setRes v).c = s.c := rfl
@[simp] theorem State.setRes_t (s : State) (v : Int) : (s.setRes v).t = s.t := rfl
@[simp] theorem State.setRes_fault (s : State) (v : Int) : (s.setRes v).fault = s.fault := rfl
@[simp] theorem State.setRes_cause (s : State) (v : Int) : (s.setRes v).cause = s.cause := rfl
@[simp] theorem State.setRes_info (s : State) (v : Int) : (s.setRes v).info = s.info := rfl
@[simp] theorem State.setRes_src (s : State) (v : Int) : (s.setRes v).src = s.src := rfl
@[simp] theorem State.setRes_res (s : State) (v : Int) : (s.setRes v).res = BitVec.ofInt 64 v := rfl
@[simp] theorem State.setRes_mem (s : State) (v : Int) : (s.setRes v).mem = s.mem := rfl
@[simp] theorem State.setRes_screen (s : State) (v : Int) : (s.setRes v).screen = s.screen := rfl
@[simp] theorem State.setRes_host (s : State) (v : Int) : (s.setRes v).host = s.host := rfl
@[simp] theorem State.setRes_rsp (s : State) (v : Int) : (s.setRes v).rsp = s.rsp := rfl
@[simp] theorem State.setRes_G (s : State) (v : Int) (j : GReg) : (s.setRes v).G j = s.G j := rfl
@[simp] theorem State.setRes_R (s : State) (v : Int) (j : RReg) : (s.setRes v).R j = s.R j := rfl
@[simp] theorem State.setRes_C (s : State) (v : Int) (j : CReg) : (s.setRes v).C j = s.C j := rfl
@[simp] theorem State.setRes_rect (s : State) (v : Int) (j : RReg) : (s.setRes v).rect j = s.rect j := rfl
@[simp] theorem State.setRes_quad (s : State) (v : Int) (j : GReg) : (s.setRes v).quad j = s.quad j := rfl

/-! ### raise -/

@[simp] theorem State.raise_g (s : State) (k : Cause) (src : Source) (info : BitVec 32) : (s.raise k src info).g = s.g := rfl
@[simp] theorem State.raise_r (s : State) (k : Cause) (src : Source) (info : BitVec 32) : (s.raise k src info).r = s.r := rfl
@[simp] theorem State.raise_c (s : State) (k : Cause) (src : Source) (info : BitVec 32) : (s.raise k src info).c = s.c := rfl
@[simp] theorem State.raise_t (s : State) (k : Cause) (src : Source) (info : BitVec 32) : (s.raise k src info).t = s.t := rfl
@[simp] theorem State.raise_fault (s : State) (k : Cause) (src : Source) (info : BitVec 32) : (s.raise k src info).fault = true := rfl
@[simp] theorem State.raise_cause (s : State) (k : Cause) (src : Source) (info : BitVec 32) : (s.raise k src info).cause = k.code := rfl
@[simp] theorem State.raise_info (s : State) (k : Cause) (src : Source) (info : BitVec 32) : (s.raise k src info).info = info := rfl
@[simp] theorem State.raise_src (s : State) (k : Cause) (src : Source) (info : BitVec 32) : (s.raise k src info).src = src.code := rfl
@[simp] theorem State.raise_res (s : State) (k : Cause) (src : Source) (info : BitVec 32) : (s.raise k src info).res = s.res := rfl
@[simp] theorem State.raise_mem (s : State) (k : Cause) (src : Source) (info : BitVec 32) : (s.raise k src info).mem = s.mem := rfl
@[simp] theorem State.raise_screen (s : State) (k : Cause) (src : Source) (info : BitVec 32) : (s.raise k src info).screen = s.screen := rfl
@[simp] theorem State.raise_host (s : State) (k : Cause) (src : Source) (info : BitVec 32) : (s.raise k src info).host = s.host := rfl
@[simp] theorem State.raise_rsp (s : State) (k : Cause) (src : Source) (info : BitVec 32) : (s.raise k src info).rsp = s.rsp := rfl
@[simp] theorem State.raise_G (s : State) (k : Cause) (src : Source) (info : BitVec 32) (j : GReg) : (s.raise k src info).G j = s.G j := rfl
@[simp] theorem State.raise_R (s : State) (k : Cause) (src : Source) (info : BitVec 32) (j : RReg) : (s.raise k src info).R j = s.R j := rfl
@[simp] theorem State.raise_C (s : State) (k : Cause) (src : Source) (info : BitVec 32) (j : CReg) : (s.raise k src info).C j = s.C j := rfl
@[simp] theorem State.raise_rect (s : State) (k : Cause) (src : Source) (info : BitVec 32) (j : RReg) : (s.raise k src info).rect j = s.rect j := rfl
@[simp] theorem State.raise_quad (s : State) (k : Cause) (src : Source) (info : BitVec 32) (j : GReg) : (s.raise k src info).quad j = s.quad j := rfl

/-! ### setMem -/

@[simp] theorem State.setMem_g (s : State) (m : Memory) : (s.setMem m).g = s.g := rfl
@[simp] theorem State.setMem_r (s : State) (m : Memory) : (s.setMem m).r = s.r := rfl
@[simp] theorem State.setMem_c (s : State) (m : Memory) : (s.setMem m).c = s.c := rfl
@[simp] theorem State.setMem_t (s : State) (m : Memory) : (s.setMem m).t = s.t := rfl
@[simp] theorem State.setMem_fault (s : State) (m : Memory) : (s.setMem m).fault = s.fault := rfl
@[simp] theorem State.setMem_cause (s : State) (m : Memory) : (s.setMem m).cause = s.cause := rfl
@[simp] theorem State.setMem_info (s : State) (m : Memory) : (s.setMem m).info = s.info := rfl
@[simp] theorem State.setMem_src (s : State) (m : Memory) : (s.setMem m).src = s.src := rfl
@[simp] theorem State.setMem_res (s : State) (m : Memory) : (s.setMem m).res = s.res := rfl
@[simp] theorem State.setMem_mem (s : State) (m : Memory) : (s.setMem m).mem = m := rfl
@[simp] theorem State.setMem_screen (s : State) (m : Memory) : (s.setMem m).screen = s.screen := rfl
@[simp] theorem State.setMem_host (s : State) (m : Memory) : (s.setMem m).host = s.host := rfl
@[simp] theorem State.setMem_rsp (s : State) (m : Memory) : (s.setMem m).rsp = s.rsp := rfl
@[simp] theorem State.setMem_G (s : State) (m : Memory) (j : GReg) : (s.setMem m).G j = s.G j := rfl
@[simp] theorem State.setMem_R (s : State) (m : Memory) (j : RReg) : (s.setMem m).R j = s.R j := rfl
@[simp] theorem State.setMem_C (s : State) (m : Memory) (j : CReg) : (s.setMem m).C j = s.C j := rfl
@[simp] theorem State.setMem_rect (s : State) (m : Memory) (j : RReg) : (s.setMem m).rect j = s.rect j := rfl
@[simp] theorem State.setMem_quad (s : State) (m : Memory) (j : GReg) : (s.setMem m).quad j = s.quad j := rfl

/-! ### accept -/

@[simp] theorem State.accept_g (s : State) (rest : List Transaction) : (s.accept rest).g = s.g := rfl
@[simp] theorem State.accept_r (s : State) (rest : List Transaction) : (s.accept rest).r = s.r := rfl
@[simp] theorem State.accept_c (s : State) (rest : List Transaction) : (s.accept rest).c = s.c := rfl
@[simp] theorem State.accept_t (s : State) (rest : List Transaction) : (s.accept rest).t = s.t := rfl
@[simp] theorem State.accept_fault (s : State) (rest : List Transaction) : (s.accept rest).fault = s.fault := rfl
@[simp] theorem State.accept_cause (s : State) (rest : List Transaction) : (s.accept rest).cause = s.cause := rfl
@[simp] theorem State.accept_info (s : State) (rest : List Transaction) : (s.accept rest).info = s.info := rfl
@[simp] theorem State.accept_src (s : State) (rest : List Transaction) : (s.accept rest).src = s.src := rfl
@[simp] theorem State.accept_res (s : State) (rest : List Transaction) : (s.accept rest).res = s.res := rfl
@[simp] theorem State.accept_mem (s : State) (rest : List Transaction) : (s.accept rest).mem = s.mem := rfl
@[simp] theorem State.accept_screen (s : State) (rest : List Transaction) : (s.accept rest).screen = s.screen := rfl
@[simp] theorem State.accept_host (s : State) (rest : List Transaction) : (s.accept rest).host = rest := rfl
@[simp] theorem State.accept_rsp (s : State) (rest : List Transaction) : (s.accept rest).rsp = none := rfl
@[simp] theorem State.accept_G (s : State) (rest : List Transaction) (j : GReg) : (s.accept rest).G j = s.G j := rfl
@[simp] theorem State.accept_R (s : State) (rest : List Transaction) (j : RReg) : (s.accept rest).R j = s.R j := rfl
@[simp] theorem State.accept_C (s : State) (rest : List Transaction) (j : CReg) : (s.accept rest).C j = s.C j := rfl
@[simp] theorem State.accept_rect (s : State) (rest : List Transaction) (j : RReg) : (s.accept rest).rect j = s.rect j := rfl
@[simp] theorem State.accept_quad (s : State) (rest : List Transaction) (j : GReg) : (s.accept rest).quad j = s.quad j := rfl

/-! ### answer -/

@[simp] theorem State.answer_g (s : State) (v : Word) : (s.answer v).g = s.g := rfl
@[simp] theorem State.answer_r (s : State) (v : Word) : (s.answer v).r = s.r := rfl
@[simp] theorem State.answer_c (s : State) (v : Word) : (s.answer v).c = s.c := rfl
@[simp] theorem State.answer_t (s : State) (v : Word) : (s.answer v).t = s.t := rfl
@[simp] theorem State.answer_fault (s : State) (v : Word) : (s.answer v).fault = s.fault := rfl
@[simp] theorem State.answer_cause (s : State) (v : Word) : (s.answer v).cause = s.cause := rfl
@[simp] theorem State.answer_info (s : State) (v : Word) : (s.answer v).info = s.info := rfl
@[simp] theorem State.answer_src (s : State) (v : Word) : (s.answer v).src = s.src := rfl
@[simp] theorem State.answer_res (s : State) (v : Word) : (s.answer v).res = s.res := rfl
@[simp] theorem State.answer_mem (s : State) (v : Word) : (s.answer v).mem = s.mem := rfl
@[simp] theorem State.answer_screen (s : State) (v : Word) : (s.answer v).screen = s.screen := rfl
@[simp] theorem State.answer_host (s : State) (v : Word) : (s.answer v).host = s.host := rfl
@[simp] theorem State.answer_rsp (s : State) (v : Word) : (s.answer v).rsp = some v := rfl
@[simp] theorem State.answer_G (s : State) (v : Word) (j : GReg) : (s.answer v).G j = s.G j := rfl
@[simp] theorem State.answer_R (s : State) (v : Word) (j : RReg) : (s.answer v).R j = s.R j := rfl
@[simp] theorem State.answer_C (s : State) (v : Word) (j : CReg) : (s.answer v).C j = s.C j := rfl
@[simp] theorem State.answer_rect (s : State) (v : Word) (j : RReg) : (s.answer v).rect j = s.rect j := rfl
@[simp] theorem State.answer_quad (s : State) (v : Word) (j : GReg) : (s.answer v).quad j = s.quad j := rfl

/-! ### resetBlock -/

@[simp] theorem State.resetBlock_g (s : State) : s.resetBlock.g = Vector.replicate 8 0 := rfl
@[simp] theorem State.resetBlock_r (s : State) : s.resetBlock.r = Vector.replicate 4 ⟨0, 0, 0, 0⟩ := rfl
@[simp] theorem State.resetBlock_c (s : State) : s.resetBlock.c = #v[s.screen.canvas, Canvas.null, Canvas.null, Canvas.null] := rfl
@[simp] theorem State.resetBlock_t (s : State) : s.resetBlock.t = false := rfl
@[simp] theorem State.resetBlock_fault (s : State) : s.resetBlock.fault = false := rfl
@[simp] theorem State.resetBlock_cause (s : State) : s.resetBlock.cause = 0 := rfl
@[simp] theorem State.resetBlock_info (s : State) : s.resetBlock.info = 0 := rfl
@[simp] theorem State.resetBlock_src (s : State) : s.resetBlock.src = 0 := rfl
@[simp] theorem State.resetBlock_res (s : State) : s.resetBlock.res = 0 := rfl
@[simp] theorem State.resetBlock_mem (s : State) : s.resetBlock.mem = s.mem := rfl
@[simp] theorem State.resetBlock_screen (s : State) : s.resetBlock.screen = s.screen := rfl
@[simp] theorem State.resetBlock_host (s : State) : s.resetBlock.host = s.host := rfl
@[simp] theorem State.resetBlock_rsp (s : State) : s.resetBlock.rsp = none := rfl

/-! ### Registers -/

theorem State.G_setG (s : State) (i j : GReg) (v : Word) : (s.setG i v).G j = if i = j then v else s.G j := by
  simp [State.G, State.setG, Vector.getElem_set, Fin.ext_iff]

theorem State.R_setR (s : State) (i j : RReg) (q : Rect) : (s.setR i q).R j = if i = j then q else s.R j := by
  simp [State.R, State.setR, Vector.getElem_set, Fin.ext_iff]

theorem State.C_setC (s : State) (i j : CReg) (d : Canvas) : (s.setC i d).C j = if i = j then d else s.C j := by
  simp [State.C, State.setC, Vector.getElem_set, Fin.ext_iff]

@[simp] theorem State.G_setG_self (s : State) (i : GReg) (v : Word) : (s.setG i v).G i = v := by simp [State.G_setG]
@[simp] theorem State.R_setR_self (s : State) (i : RReg) (q : Rect) : (s.setR i q).R i = q := by simp [State.R_setR]
@[simp] theorem State.C_setC_self (s : State) (i : CReg) (d : Canvas) : (s.setC i d).C i = d := by simp [State.C_setC]

theorem State.G_setG_ne (s : State) {i j : GReg} (v : Word) (h : i ≠ j) : (s.setG i v).G j = s.G j := by
  simp [State.G_setG, h]
theorem State.R_setR_ne (s : State) {i j : RReg} (q : Rect) (h : i ≠ j) : (s.setR i q).R j = s.R j := by
  simp [State.R_setR, h]
theorem State.C_setC_ne (s : State) {i j : CReg} (d : Canvas) (h : i ≠ j) : (s.setC i d).C j = s.C j := by
  simp [State.C_setC, h]

end Sys2Proof.Machine
end

