-- ==== Sys2Proof/Laws/Ops.lean ====
section
/-! SUPPORT. What each shared operation can do, said once: the tests of a command, its end, the memory primitives, and
the address arithmetic of canvases. Proofs cite these instead of unfolding the operation. -/

namespace Sys2Proof.Machine

/-! ### Tests and the end of a command -/

@[simp] theorem require_pos {p : Prop} [Decidable p] (h : p) (k : Cause) (e : Effect) : require p k e = e := by
  simp [require, h]

@[simp] theorem require_neg {p : Prop} [Decidable p] (h : ¬p) (k : Cause) (e : Effect) : require p k e = .error k := by
  simp [require, h]

theorem require_eq_ok {p : Prop} [Decidable p] {k : Cause} {e : Effect} {t : State} :
    require p k e = .ok t ↔ p ∧ e = .ok t := by
  by_cases h : p <;> simp [h]

theorem require_eq_error {p : Prop} [Decidable p] {k : Cause} {e : Effect} {j : Cause} :
    require p k e = .error j ↔ (¬p ∧ j = k) ∨ (p ∧ e = .error j) := by
  by_cases h : p <;> simp [h, eq_comm]

@[simp] theorem complete_ok (w : CmdWord) (s t : State) : complete w s (.ok t) = .next t := rfl

@[simp] theorem complete_error (w : CmdWord) (s : State) (k : Cause) :
    complete w s (.error k) = .next (s.raise k .cmd w) := rfl

/-- A command ends in the state of its effect, or in the state it found with the fault record written (R204). -/
theorem complete_eq_next {w : CmdWord} {s t : State} {e : Effect} :
    complete w s e = .next t ↔ e = .ok t ∨ ∃ k, e = .error k ∧ t = s.raise k .cmd w := by
  cases e <;> simp [complete, eq_comm]

/-! ### Memory primitives -/

theorem State.loadWord_ok (s : State) {a : Int} (h : 0 ≤ a ∧ a < s.mem.words) :
    s.loadWord a = .ok (s.mem.read a.toNat) := by
  simp [State.loadWord, h]

theorem State.loadWord_eq_error {s : State} {a : Int} {k : Cause} (h : s.loadWord a = .error k) : k = .memRange := by
  unfold State.loadWord at h
  split at h
  · cases h
  · exact (Except.error.inj h).symm

theorem State.storeWord_ok (s : State) {a : Int} (h : 0 ≤ a ∧ a < s.mem.words) (v : Word) :
    s.storeWord a v = .ok (s.setMem (s.mem.write a.toNat v)) := by
  simp [State.storeWord, h]

/-- A store that completes changed the one word it names. -/
theorem State.storeWord_eq_ok {s t : State} {a : Int} {v : Word} (h : s.storeWord a v = .ok t) :
    (0 ≤ a ∧ a < s.mem.words) ∧ t = s.setMem (s.mem.write a.toNat v) := by
  unfold State.storeWord at h
  split at h
  · rename_i h'
    exact ⟨h', (Except.ok.inj h).symm⟩
  · cases h

theorem State.storeWord_eq_error {s : State} {a : Int} {v : Word} {k : Cause} (h : s.storeWord a v = .error k) :
    k = .memRange := by
  unfold State.storeWord at h
  split at h
  · cases h
  · exact (Except.error.inj h).symm

/-- What a memory keeps when words are written to it, and how each word reads after. -/
structure Memory.Writes (m m' : Memory) (f : Nat → Word) : Prop where
  words : m'.words = m.words
  powerOn : m'.powerOn = m.powerOn
  read : ∀ a, m'.read a = f a
  keepsWF : m.WF → m'.WF

theorem Memory.Writes.refl (m : Memory) : m.Writes m m.read := ⟨rfl, rfl, fun _ => rfl, id⟩

/-- A completed list of stores of one value: the listed words hold it, every other word is as before. -/
theorem State.storeAll_eq_ok {s t : State} {v : Word} {as : List Int} (h : s.storeAll v as = .ok t) :
    ∃ m, t = s.setMem m ∧ s.mem.Writes m (fun a => if (a : Int) ∈ as then v else s.mem.read a) := by
  induction as generalizing s with
  | nil =>
    cases h
    exact ⟨t.mem, rfl, by simpa using Memory.Writes.refl t.mem⟩
  | cons a as ih =>
    simp only [State.storeAll] at h
    split at h
    · rename_i s' hs
      obtain ⟨ha, rfl⟩ := State.storeWord_eq_ok hs
      obtain ⟨m, rfl, hm⟩ := ih h
      refine ⟨m, rfl, by simpa using hm.words, by simpa using hm.powerOn, fun b => ?_, fun hw => hm.keepsWF ?_⟩
      · rw [hm.read b]
        by_cases hb : (b : Int) ∈ as
        · simp [hb]
        · have : b = a.toNat ↔ (b : Int) = a := by omega
          simp [hb, Memory.read_write, this]
      · exact Memory.write_WF hw (by omega) v
    · cases h

theorem State.storeAll_eq_error {s : State} {v : Word} {as : List Int} {k : Cause} (h : s.storeAll v as = .error k) :
    k = .memRange := by
  induction as generalizing s with
  | nil => cases h
  | cons a as ih =>
    simp only [State.storeAll] at h
    split at h
    · exact ih h
    · rename_i k' hs
      cases h
      exact State.storeWord_eq_error hs

/-- Stores inside MEM complete (R179). -/
theorem State.storeAll_ok (s : State) (v : Word) {as : List Int} (h : ∀ a ∈ as, 0 ≤ a ∧ a < s.mem.words) :
    ∃ t, s.storeAll v as = .ok t := by
  induction as generalizing s with
  | nil => exact ⟨s, rfl⟩
  | cons a as ih =>
    rw [State.storeAll, State.storeWord_ok s (h a (by simp))]
    exact ih _ fun b hb => by simpa using h b (List.mem_cons_of_mem _ hb)

/-! ### Canvas addresses -/

/-- R177, R179: in a well-formed canvas that fits, every cell is a word of MEM. -/
theorem Canvas.cellAddr_inMem {c : Canvas} {words : Nat} {x y : Int} (hw : c.WF) (hf : c.Fits words)
    (hi : c.InCells x y) : 0 ≤ c.cellAddr x y ∧ c.cellAddr x y < words := by
  obtain ⟨h1, h2, h3, h4⟩ := hw
  obtain ⟨⟨hx0, hx⟩, hy0, hy⟩ := hi
  have hm : y * c.stride.toInt ≤ (c.height.toInt - 1) * c.stride.toInt :=
    Int.mul_le_mul_of_nonneg_right (by omega) h3
  have hp : 0 ≤ y * c.stride.toInt := Int.mul_nonneg hy0 h3
  have hnn : ¬c.IsNull := by
    rintro (hv | hv | hv)
    · have := (h4.1 hv).1
      omega
    · omega
    · omega
  rcases hf with hn | hf
  · exact absurd hn hnn
  · unfold Canvas.cellAddr
    constructor
    · omega
    · omega

/-- A canvas with a cell is not null. -/
theorem Canvas.not_isNull_of_inCells {c : Canvas} {x y : Int} (hw : c.WF) (hi : c.InCells x y) : ¬c.IsNull := by
  rintro (hv | hv | hv)
  · have := (hw.2.2.2.1 hv).1
    have := hi.1
    omega
  · have := hi.1
    omega
  · have := hi.2
    omega

theorem Canvas.mem_cellAddrs {c : Canvas} {a : Int} :
    a ∈ c.cellAddrs ↔ ∃ x y : Int, c.InCells x y ∧ c.cellAddr x y = a := by
  simp only [Canvas.cellAddrs, List.mem_flatMap, List.mem_map, List.mem_range]
  constructor
  · rintro ⟨y, hy, x, hx, rfl⟩
    exact ⟨x, y, ⟨⟨by omega, by omega⟩, by omega, by omega⟩, rfl⟩
  · rintro ⟨x, y, ⟨⟨hx0, hx⟩, hy0, hy⟩, rfl⟩
    refine ⟨y.toNat, by omega, x.toNat, by omega, ?_⟩
    rw [Int.toNat_of_nonneg hx0, Int.toNat_of_nonneg hy0]

/-- The cell of a pixel of the canvas. -/
theorem Canvas.inCells_of_inPixels {c : Canvas} {x y : Int} (h : c.InPixels x y) : c.InCells (x / 8) (y / 8) := by
  obtain ⟨⟨h1, h2⟩, h3, h4⟩ := h
  exact ⟨⟨by omega, by omega⟩, by omega, by omega⟩

/-! ### Plot -/

/-- A plot that completes: inside the canvas it sets one bit of one word, outside it changes nothing (R192). -/
theorem State.plot_eq_ok {s t : State} {c : Canvas} {x y : Int} {b : Bool} (h : s.plot c x y = .ok (b, t)) :
    (c.InPixels x y ∧ b = true ∧ (0 ≤ c.cellAddr (x / 8) (y / 8) ∧ c.cellAddr (x / 8) (y / 8) < s.mem.words) ∧
      t = s.setMem (s.mem.write (c.cellAddr (x / 8) (y / 8)).toNat
        (s.mem.read (c.cellAddr (x / 8) (y / 8)).toNat ||| fromPixel (x % 8).toNat (y % 8).toNat))) ∨
    (¬c.InPixels x y ∧ b = false ∧ t = s) := by
  unfold State.plot at h
  split at h
  · rename_i hp
    split at h
    · cases h
    · rename_i v hv
      split at h
      · cases h
      · rename_i s' hs
        obtain ⟨ha, rfl⟩ := State.storeWord_eq_ok hs
        rw [State.loadWord_ok s ha] at hv
        cases hv
        cases h
        exact .inl ⟨hp, rfl, ha, rfl⟩
  · rename_i hp
    cases h
    exact .inr ⟨hp, rfl, rfl⟩

theorem State.plot_eq_error {s : State} {c : Canvas} {x y : Int} {k : Cause} (h : s.plot c x y = .error k) :
    k = .memRange := by
  unfold State.plot at h
  split at h
  · split at h
    · rename_i hl
      cases h
      exact State.loadWord_eq_error hl
    · split at h
      · rename_i hs
        cases h
        exact State.storeWord_eq_error hs
      · cases h
  · cases h

/-- A plot on a well-formed canvas that fits completes (R179). -/
theorem State.plot_ok (s : State) {c : Canvas} (hw : c.WF) (hf : c.Fits s.mem.words) (x y : Int) :
    ∃ b t, s.plot c x y = .ok (b, t) := by
  unfold State.plot
  split
  · rename_i hp
    have ha := Canvas.cellAddr_inMem hw hf (Canvas.inCells_of_inPixels hp)
    rw [State.loadWord_ok s ha]
    simp only [State.storeWord_ok s ha]
    exact ⟨_, _, rfl⟩
  · exact ⟨_, _, rfl⟩

/-- The list of points sets bit `i` of the word at address `a`: some point lies inside the canvas, in the cell at `a`, at
the pixel whose bit is `i`. -/
def Canvas.Plots (c : Canvas) (ps : List (Int × Int)) (a i : Nat) : Prop :=
  ∃ p ∈ ps, c.InPixels p.1 p.2 ∧ c.cellAddr (p.1 / 8) (p.2 / 8) = a ∧ bitOf (p.1 % 8).toNat (p.2 % 8).toNat = i

theorem getLsbD_fromPixel {x y i : Nat} : (fromPixel x y).getLsbD i = decide (bitOf x y = i) := by
  unfold fromPixel
  by_cases h : bitOf x y = i
  · subst h
    have : bitOf x y < 64 := by unfold bitOf; omega
    simp [this]
  · have : ¬(i < 64 ∧ i - bitOf x y = 0 ∧ bitOf x y ≤ i) := by omega
    simp only [BitVec.getLsbD_shiftLeft, BitVec.getLsbD_one, h, decide_false]
    by_cases h1 : i < bitOf x y
    · simp [h1]
    · have : i - bitOf x y ≠ 0 := by omega
      simp [this]

/-- Completed plots: a bit of MEM is set after exactly when it was set before or some point sets it (R197). -/
theorem State.plotAll_eq_ok {s t : State} {c : Canvas} {ps : List (Int × Int)} (h : s.plotAll c ps = .ok t) :
    ∃ m, t = s.setMem m ∧ m.words = s.mem.words ∧ m.powerOn = s.mem.powerOn ∧ (s.mem.WF → m.WF) ∧
      ∀ a i, (m.read a).getLsbD i = true ↔ (s.mem.read a).getLsbD i = true ∨ c.Plots ps a i := by
  induction ps generalizing s with
  | nil =>
    cases h
    exact ⟨t.mem, rfl, rfl, rfl, id, by simp [Canvas.Plots]⟩
  | cons p ps ih =>
    simp only [State.plotAll] at h
    split at h
    · cases h
    · rename_i b s' hp
      obtain ⟨m, rfl, hw, hpo, hwf, hr⟩ := ih h
      rcases State.plot_eq_ok hp with ⟨hin, -, ha, rfl⟩ | ⟨hout, -, rfl⟩
      · refine ⟨m, rfl, by simpa using hw, by simpa using hpo, fun h => hwf (Memory.write_WF h (by omega) _), fun a i => ?_⟩
        rw [hr a i]
        have hc : c.Plots (p :: ps) a i ↔
            (c.cellAddr (p.1 / 8) (p.2 / 8) = a ∧ bitOf (p.1 % 8).toNat (p.2 % 8).toNat = i) ∨ c.Plots ps a i := by
          simp only [Canvas.Plots, List.mem_cons, exists_eq_or_imp, eq_true hin, true_and]
        rw [hc]
        have hadr : a = (c.cellAddr (p.1 / 8) (p.2 / 8)).toNat ↔ c.cellAddr (p.1 / 8) (p.2 / 8) = a := by omega
        by_cases he : c.cellAddr (p.1 / 8) (p.2 / 8) = a
        · simp [he, getLsbD_fromPixel, or_assoc]
        · simp [Memory.read_write, hadr, he]
      · refine ⟨m, rfl, hw, hpo, hwf, fun a i => ?_⟩
        rw [hr a i]
        simp only [Canvas.Plots, List.mem_cons, exists_eq_or_imp]
        simp only [hout, false_and, false_or]

theorem State.plotAll_eq_error {s : State} {c : Canvas} {ps : List (Int × Int)} {k : Cause}
    (h : s.plotAll c ps = .error k) : k = .memRange := by
  induction ps generalizing s with
  | nil => cases h
  | cons p ps ih =>
    simp only [State.plotAll] at h
    split at h
    · rename_i hp
      cases h
      exact State.plot_eq_error hp
    · exact ih h

/-- Plots on a well-formed canvas that fits complete (R179). -/
theorem State.plotAll_ok (s : State) {c : Canvas} (hw : c.WF) (hf : c.Fits s.mem.words) (ps : List (Int × Int)) :
    ∃ t, s.plotAll c ps = .ok t := by
  induction ps generalizing s with
  | nil => exact ⟨s, rfl⟩
  | cons p ps ih =>
    obtain ⟨b, s', h⟩ := State.plot_ok s hw hf p.1 p.2
    simp only [State.plotAll, h]
    refine ih s' ?_
    rcases State.plot_eq_ok h with ⟨-, -, -, rfl⟩ | ⟨-, -, rfl⟩
    · simpa using hf
    · exact hf

end Sys2Proof.Machine
end

