-- ==== Sys2Proof/Laws/PerInstr.lean ====
section
/-! SUPPORT. The family RowSelects, one lemma per command: the command's own row of the opcode table selects the word
the encoder writes for it (spec/30_encoding.md R67). -/

namespace Sys2Proof.Laws

/-- The row of the command's mnemonic selects its word. -/
def RowSelects.Statement (i : Instr) : Prop :=
  i.wellFormed = true → ∃ row ∈ opcodeTable, row.mnemonic = i.mnemonic ∧ row.selects (encode i) = true

/-- A row selects a word when its mask, field by field, leaves the opcode and clears the six fields. -/
theorem selects_cmdWord {name : String} {mask value : CmdWord} {op : BitVec 8} {a b c d e f a' b' c' d' e' f' : Nibble}
    (hm : mask = cmdWord 0xFF a' b' c' d' e' f') (hv : value = cmdWord op 0 0 0 0 0 0) (ha : a &&& a' = 0)
    (hb : b &&& b' = 0) (hc : c &&& c' = 0) (hd : d &&& d' = 0) (he : e &&& e' = 0) (hf : f &&& f' = 0)
    (hn : name ≠ "LUTRD" ∨ a ≠ 7) : (OpRow.mk name mask value).selects (cmdWord op a b c d e f) = true := by
  have h8 : op &&& 0xFF = op := BitVec.and_allOnes
  simp only [OpRow.selects, hm, hv, cmdWord_and, h8, ha, hb, hc, hd, he, hf, faOf_cmdWord, beq_self_eq_true, Bool.true_and]
  rcases hn with hn | hn
  · simp [hn]
  · simpa using .inr hn

theorem RowSelects.nop : RowSelects.Statement .nop := fun _ =>
  ⟨⟨"NOP", 0xFFFFFFFF, 0x00000000⟩, by decide, rfl,
    selects_cmdWord (a' := 0xF) (b' := 0xF) (c' := 0xF) (d' := 0xF) (e' := 0xF) (f' := 0xF) rfl rfl
      rfl rfl rfl rfl rfl rfl (.inl (by decide))⟩

theorem RowSelects.frompix (gd : GReg) (x y : Nibble) : RowSelects.Statement (.frompix gd x y) := fun _ =>
  ⟨⟨"FROMPIX", 0xFF800FFF, 0x01000000⟩, by decide, rfl,
    selects_cmdWord (a' := 0x8) (b' := 0x0) (c' := 0x0) (d' := 0xF) (e' := 0xF) (f' := 0xF) rfl rfl
      (nib_and_8 _) BitVec.and_zero BitVec.and_zero rfl rfl rfl (.inl (by decide))⟩

theorem RowSelects.pixval (gs : GReg) (x y : Nibble) : RowSelects.Statement (.pixval gs x y) := fun _ =>
  ⟨⟨"PIXVAL", 0xFF800FFF, 0x02000000⟩, by decide, rfl,
    selects_cmdWord (a' := 0x8) (b' := 0x0) (c' := 0x0) (d' := 0xF) (e' := 0xF) (f' := 0xF) rfl rfl
      (nib_and_8 _) BitVec.and_zero BitVec.and_zero rfl rfl rfl (.inl (by decide))⟩

theorem RowSelects.rowbyte (gs : GReg) (row : Nibble) : RowSelects.Statement (.rowbyte gs row) := fun _ =>
  ⟨⟨"ROWBYTE", 0xFF80FFFF, 0x03000000⟩, by decide, rfl,
    selects_cmdWord (a' := 0x8) (b' := 0x0) (c' := 0xF) (d' := 0xF) (e' := 0xF) (f' := 0xF) rfl rfl
      (nib_and_8 _) BitVec.and_zero rfl rfl rfl rfl (.inl (by decide))⟩

theorem RowSelects.lutrd (k : Nibble) (i : BitVec 8) : RowSelects.Statement (.lutrd k i) := fun h => by
  have h7 : k.toNat < 7 := by simpa [Instr.wellFormed] using h
  have h8 : ∀ k : Nibble, k.toNat < 7 → k &&& 8 = 0 := by decide
  have hn : k ≠ 7 := by
    rintro rfl
    exact absurd h7 (by decide)
  exact ⟨⟨"LUTRD", 0xFF8FFF00, 0x04000000⟩, by decide, rfl,
    selects_cmdWord (a' := 8) (b' := 0xF) (c' := 0xF) (d' := 0xF) (e' := 0) (f' := 0) rfl rfl (h8 k h7) rfl rfl rfl
      BitVec.and_zero BitVec.and_zero (.inr hn)⟩

theorem RowSelects.gmask (gd : GReg) (m : Nibble) : RowSelects.Statement (.gmask gd m) := fun _ =>
  ⟨⟨"GMASK", 0xFF80FFFF, 0x05000000⟩, by decide, rfl,
    selects_cmdWord (a' := 0x8) (b' := 0x0) (c' := 0xF) (d' := 0xF) (e' := 0xF) (f' := 0xF) rfl rfl
      (nib_and_8 _) BitVec.and_zero rfl rfl rfl rfl (.inl (by decide))⟩

theorem RowSelects.glyph4 (gd g1 g2 g3 g4 : GReg) : RowSelects.Statement (.glyph4 gd g1 g2 g3 g4) := fun _ =>
  ⟨⟨"GLYPH4", 0xFF88888F, 0x06000000⟩, by decide, rfl,
    selects_cmdWord (a' := 0x8) (b' := 0x8) (c' := 0x8) (d' := 0x8) (e' := 0x8) (f' := 0xF) rfl rfl
      (nib_and_8 _) (nib_and_8 _) (nib_and_8 _) (nib_and_8 _) (nib_and_8 _) rfl (.inl (by decide))⟩

theorem RowSelects.tallhalf2 (gd g1 g2 : GReg) : RowSelects.Statement (.tallhalf2 gd g1 g2) := fun _ =>
  ⟨⟨"TALLHALF2", 0xFF888FFF, 0x07000000⟩, by decide, rfl,
    selects_cmdWord (a' := 0x8) (b' := 0x8) (c' := 0x8) (d' := 0xF) (e' := 0xF) (f' := 0xF) rfl rfl
      (nib_and_8 _) (nib_and_8 _) (nib_and_8 _) rfl rfl rfl (.inl (by decide))⟩

theorem RowSelects.widehalf2 (gd g1 g2 : GReg) : RowSelects.Statement (.widehalf2 gd g1 g2) := fun _ =>
  ⟨⟨"WIDEHALF2", 0xFF888FFF, 0x08000000⟩, by decide, rfl,
    selects_cmdWord (a' := 0x8) (b' := 0x8) (c' := 0x8) (d' := 0xF) (e' := 0xF) (f' := 0xF) rfl rfl
      (nib_and_8 _) (nib_and_8 _) (nib_and_8 _) rfl rfl rfl (.inl (by decide))⟩

theorem RowSelects.gmov (gd gs : GReg) : RowSelects.Statement (.gmov gd gs) := fun _ =>
  ⟨⟨"GMOV", 0xFF88FFFF, 0x10000000⟩, by decide, rfl,
    selects_cmdWord (a' := 0x8) (b' := 0x8) (c' := 0xF) (d' := 0xF) (e' := 0xF) (f' := 0xF) rfl rfl
      (nib_and_8 _) (nib_and_8 _) rfl rfl rfl rfl (.inl (by decide))⟩

theorem RowSelects.gflip (gd gs : GReg) : RowSelects.Statement (.gflip gd gs) := fun _ =>
  ⟨⟨"GFLIP", 0xFF88FFFF, 0x11000000⟩, by decide, rfl,
    selects_cmdWord (a' := 0x8) (b' := 0x8) (c' := 0xF) (d' := 0xF) (e' := 0xF) (f' := 0xF) rfl rfl
      (nib_and_8 _) (nib_and_8 _) rfl rfl rfl rfl (.inl (by decide))⟩

theorem RowSelects.gmirror (gd gs : GReg) : RowSelects.Statement (.gmirror gd gs) := fun _ =>
  ⟨⟨"GMIRROR", 0xFF88FFFF, 0x12000000⟩, by decide, rfl,
    selects_cmdWord (a' := 0x8) (b' := 0x8) (c' := 0xF) (d' := 0xF) (e' := 0xF) (f' := 0xF) rfl rfl
      (nib_and_8 _) (nib_and_8 _) rfl rfl rfl rfl (.inl (by decide))⟩

theorem RowSelects.grot180 (gd gs : GReg) : RowSelects.Statement (.grot180 gd gs) := fun _ =>
  ⟨⟨"GROT180", 0xFF88FFFF, 0x13000000⟩, by decide, rfl,
    selects_cmdWord (a' := 0x8) (b' := 0x8) (c' := 0xF) (d' := 0xF) (e' := 0xF) (f' := 0xF) rfl rfl
      (nib_and_8 _) (nib_and_8 _) rfl rfl rfl rfl (.inl (by decide))⟩

theorem RowSelects.gtransp (gd gs : GReg) : RowSelects.Statement (.gtransp gd gs) := fun _ =>
  ⟨⟨"GTRANSP", 0xFF88FFFF, 0x14000000⟩, by decide, rfl,
    selects_cmdWord (a' := 0x8) (b' := 0x8) (c' := 0xF) (d' := 0xF) (e' := 0xF) (f' := 0xF) rfl rfl
      (nib_and_8 _) (nib_and_8 _) rfl rfl rfl rfl (.inl (by decide))⟩

theorem RowSelects.grot270 (gd gs : GReg) : RowSelects.Statement (.grot270 gd gs) := fun _ =>
  ⟨⟨"GROT270", 0xFF88FFFF, 0x15000000⟩, by decide, rfl,
    selects_cmdWord (a' := 0x8) (b' := 0x8) (c' := 0xF) (d' := 0xF) (e' := 0xF) (f' := 0xF) rfl rfl
      (nib_and_8 _) (nib_and_8 _) rfl rfl rfl rfl (.inl (by decide))⟩

theorem RowSelects.grot90 (gd gs : GReg) : RowSelects.Statement (.grot90 gd gs) := fun _ =>
  ⟨⟨"GROT90", 0xFF88FFFF, 0x16000000⟩, by decide, rfl,
    selects_cmdWord (a' := 0x8) (b' := 0x8) (c' := 0xF) (d' := 0xF) (e' := 0xF) (f' := 0xF) rfl rfl
      (nib_and_8 _) (nib_and_8 _) rfl rfl rfl rfl (.inl (by decide))⟩

theorem RowSelects.mtop (gs : GReg) : RowSelects.Statement (.mtop gs) := fun _ =>
  ⟨⟨"MTOP", 0xFF8FFFFF, 0x20000000⟩, by decide, rfl,
    selects_cmdWord (a' := 0x8) (b' := 0xF) (c' := 0xF) (d' := 0xF) (e' := 0xF) (f' := 0xF) rfl rfl
      (nib_and_8 _) rfl rfl rfl rfl rfl (.inl (by decide))⟩

theorem RowSelects.mbot (gs : GReg) : RowSelects.Statement (.mbot gs) := fun _ =>
  ⟨⟨"MBOT", 0xFF8FFFFF, 0x21000000⟩, by decide, rfl,
    selects_cmdWord (a' := 0x8) (b' := 0xF) (c' := 0xF) (d' := 0xF) (e' := 0xF) (f' := 0xF) rfl rfl
      (nib_and_8 _) rfl rfl rfl rfl rfl (.inl (by decide))⟩

theorem RowSelects.mleft (gs : GReg) : RowSelects.Statement (.mleft gs) := fun _ =>
  ⟨⟨"MLEFT", 0xFF8FFFFF, 0x22000000⟩, by decide, rfl,
    selects_cmdWord (a' := 0x8) (b' := 0xF) (c' := 0xF) (d' := 0xF) (e' := 0xF) (f' := 0xF) rfl rfl
      (nib_and_8 _) rfl rfl rfl rfl rfl (.inl (by decide))⟩

theorem RowSelects.mright (gs : GReg) : RowSelects.Statement (.mright gs) := fun _ =>
  ⟨⟨"MRIGHT", 0xFF8FFFFF, 0x23000000⟩, by decide, rfl,
    selects_cmdWord (a' := 0x8) (b' := 0xF) (c' := 0xF) (d' := 0xF) (e' := 0xF) (f' := 0xF) rfl rfl
      (nib_and_8 _) rfl rfl rfl rfl rfl (.inl (by decide))⟩

theorem RowSelects.gwidth (gs : GReg) : RowSelects.Statement (.gwidth gs) := fun _ =>
  ⟨⟨"GWIDTH", 0xFF8FFFFF, 0x24000000⟩, by decide, rfl,
    selects_cmdWord (a' := 0x8) (b' := 0xF) (c' := 0xF) (d' := 0xF) (e' := 0xF) (f' := 0xF) rfl rfl
      (nib_and_8 _) rfl rfl rfl rfl rfl (.inl (by decide))⟩

theorem RowSelects.gheight (gs : GReg) : RowSelects.Statement (.gheight gs) := fun _ =>
  ⟨⟨"GHEIGHT", 0xFF8FFFFF, 0x25000000⟩, by decide, rfl,
    selects_cmdWord (a' := 0x8) (b' := 0xF) (c' := 0xF) (d' := 0xF) (e' := 0xF) (f' := 0xF) rfl rfl
      (nib_and_8 _) rfl rfl rfl rfl rfl (.inl (by decide))⟩

theorem RowSelects.gmerge (gd ga gb gm : GReg) : RowSelects.Statement (.gmerge gd ga gb gm) := fun _ =>
  ⟨⟨"GMERGE", 0xFF8888FF, 0x30000000⟩, by decide, rfl,
    selects_cmdWord (a' := 0x8) (b' := 0x8) (c' := 0x8) (d' := 0x8) (e' := 0xF) (f' := 0xF) rfl rfl
      (nib_and_8 _) (nib_and_8 _) (nib_and_8 _) (nib_and_8 _) rfl rfl (.inl (by decide))⟩

theorem RowSelects.gshl (gd gs : GReg) (n : Nibble) : RowSelects.Statement (.gshl gd gs n) := fun _ =>
  ⟨⟨"GSHL", 0xFF880FFF, 0x40000000⟩, by decide, rfl,
    selects_cmdWord (a' := 0x8) (b' := 0x8) (c' := 0x0) (d' := 0xF) (e' := 0xF) (f' := 0xF) rfl rfl
      (nib_and_8 _) (nib_and_8 _) BitVec.and_zero rfl rfl rfl (.inl (by decide))⟩

theorem RowSelects.gshr (gd gs : GReg) (n : Nibble) : RowSelects.Statement (.gshr gd gs n) := fun _ =>
  ⟨⟨"GSHR", 0xFF880FFF, 0x41000000⟩, by decide, rfl,
    selects_cmdWord (a' := 0x8) (b' := 0x8) (c' := 0x0) (d' := 0xF) (e' := 0xF) (f' := 0xF) rfl rfl
      (nib_and_8 _) (nib_and_8 _) BitVec.and_zero rfl rfl rfl (.inl (by decide))⟩

theorem RowSelects.gshu (gd gs : GReg) (n : Nibble) : RowSelects.Statement (.gshu gd gs n) := fun _ =>
  ⟨⟨"GSHU", 0xFF880FFF, 0x42000000⟩, by decide, rfl,
    selects_cmdWord (a' := 0x8) (b' := 0x8) (c' := 0x0) (d' := 0xF) (e' := 0xF) (f' := 0xF) rfl rfl
      (nib_and_8 _) (nib_and_8 _) BitVec.and_zero rfl rfl rfl (.inl (by decide))⟩

theorem RowSelects.gshd (gd gs : GReg) (n : Nibble) : RowSelects.Statement (.gshd gd gs n) := fun _ =>
  ⟨⟨"GSHD", 0xFF880FFF, 0x43000000⟩, by decide, rfl,
    selects_cmdWord (a' := 0x8) (b' := 0x8) (c' := 0x0) (d' := 0xF) (e' := 0xF) (f' := 0xF) rfl rfl
      (nib_and_8 _) (nib_and_8 _) BitVec.and_zero rfl rfl rfl (.inl (by decide))⟩

theorem RowSelects.gcyl (gd gs : GReg) (n : Nibble) : RowSelects.Statement (.gcyl gd gs n) := fun _ =>
  ⟨⟨"GCYL", 0xFF880FFF, 0x44000000⟩, by decide, rfl,
    selects_cmdWord (a' := 0x8) (b' := 0x8) (c' := 0x0) (d' := 0xF) (e' := 0xF) (f' := 0xF) rfl rfl
      (nib_and_8 _) (nib_and_8 _) BitVec.and_zero rfl rfl rfl (.inl (by decide))⟩

theorem RowSelects.gcyr (gd gs : GReg) (n : Nibble) : RowSelects.Statement (.gcyr gd gs n) := fun _ =>
  ⟨⟨"GCYR", 0xFF880FFF, 0x45000000⟩, by decide, rfl,
    selects_cmdWord (a' := 0x8) (b' := 0x8) (c' := 0x0) (d' := 0xF) (e' := 0xF) (f' := 0xF) rfl rfl
      (nib_and_8 _) (nib_and_8 _) BitVec.and_zero rfl rfl rfl (.inl (by decide))⟩

theorem RowSelects.gcyu (gd gs : GReg) (n : Nibble) : RowSelects.Statement (.gcyu gd gs n) := fun _ =>
  ⟨⟨"GCYU", 0xFF880FFF, 0x46000000⟩, by decide, rfl,
    selects_cmdWord (a' := 0x8) (b' := 0x8) (c' := 0x0) (d' := 0xF) (e' := 0xF) (f' := 0xF) rfl rfl
      (nib_and_8 _) (nib_and_8 _) BitVec.and_zero rfl rfl rfl (.inl (by decide))⟩

theorem RowSelects.gcyd (gd gs : GReg) (n : Nibble) : RowSelects.Statement (.gcyd gd gs n) := fun _ =>
  ⟨⟨"GCYD", 0xFF880FFF, 0x47000000⟩, by decide, rfl,
    selects_cmdWord (a' := 0x8) (b' := 0x8) (c' := 0x0) (d' := 0xF) (e' := 0xF) (f' := 0xF) rfl rfl
      (nib_and_8 _) (nib_and_8 _) BitVec.and_zero rfl rfl rfl (.inl (by decide))⟩

theorem RowSelects.rnorm (rd rs : RReg) : RowSelects.Statement (.rnorm rd rs) := fun _ =>
  ⟨⟨"RNORM", 0xFFCCFFFF, 0x50000000⟩, by decide, rfl,
    selects_cmdWord (a' := 0xC) (b' := 0xC) (c' := 0xF) (d' := 0xF) (e' := 0xF) (f' := 0xF) rfl rfl
      (nib_and_12 _) (nib_and_12 _) rfl rfl rfl rfl (.inl (by decide))⟩

theorem RowSelects.rtoabs (rd rs : RReg) : RowSelects.Statement (.rtoabs rd rs) := fun _ =>
  ⟨⟨"RTOABS", 0xFFCCFFFF, 0x51000000⟩, by decide, rfl,
    selects_cmdWord (a' := 0xC) (b' := 0xC) (c' := 0xF) (d' := 0xF) (e' := 0xF) (f' := 0xF) rfl rfl
      (nib_and_12 _) (nib_and_12 _) rfl rfl rfl rfl (.inl (by decide))⟩

theorem RowSelects.rtoreg (rd rs : RReg) : RowSelects.Statement (.rtoreg rd rs) := fun _ =>
  ⟨⟨"RTOREG", 0xFFCCFFFF, 0x52000000⟩, by decide, rfl,
    selects_cmdWord (a' := 0xC) (b' := 0xC) (c' := 0xF) (d' := 0xF) (e' := 0xF) (f' := 0xF) rfl rfl
      (nib_and_12 _) (nib_and_12 _) rfl rfl rfl rfl (.inl (by decide))⟩

theorem RowSelects.rclip (rd rs rb : RReg) : RowSelects.Statement (.rclip rd rs rb) := fun _ =>
  ⟨⟨"RCLIP", 0xFFCCCFFF, 0x53000000⟩, by decide, rfl,
    selects_cmdWord (a' := 0xC) (b' := 0xC) (c' := 0xC) (d' := 0xF) (e' := 0xF) (f' := 0xF) rfl rfl
      (nib_and_12 _) (nib_and_12 _) (nib_and_12 _) rfl rfl rfl (.inl (by decide))⟩

theorem RowSelects.caddr (cs : CReg) (rr : RReg) : RowSelects.Statement (.caddr cs rr) := fun _ =>
  ⟨⟨"CADDR", 0xFFCCFFFF, 0x60000000⟩, by decide, rfl,
    selects_cmdWord (a' := 0xC) (b' := 0xC) (c' := 0xF) (d' := 0xF) (e' := 0xF) (f' := 0xF) rfl rfl
      (nib_and_12 _) (nib_and_12 _) rfl rfl rfl rfl (.inl (by decide))⟩

theorem RowSelects.cldg (gd : GReg) (cs : CReg) (rr : RReg) : RowSelects.Statement (.cldg gd cs rr) := fun _ =>
  ⟨⟨"CLDG", 0xFF8CCFFF, 0x61000000⟩, by decide, rfl,
    selects_cmdWord (a' := 0x8) (b' := 0xC) (c' := 0xC) (d' := 0xF) (e' := 0xF) (f' := 0xF) rfl rfl
      (nib_and_8 _) (nib_and_12 _) (nib_and_12 _) rfl rfl rfl (.inl (by decide))⟩

theorem RowSelects.cstg (gs : GReg) (cs : CReg) (rr : RReg) : RowSelects.Statement (.cstg gs cs rr) := fun _ =>
  ⟨⟨"CSTG", 0xFF8CCFFF, 0x62000000⟩, by decide, rfl,
    selects_cmdWord (a' := 0x8) (b' := 0xC) (c' := 0xC) (d' := 0xF) (e' := 0xF) (f' := 0xF) rfl rfl
      (nib_and_8 _) (nib_and_12 _) (nib_and_12 _) rfl rfl rfl (.inl (by decide))⟩

theorem RowSelects.cat (gd : GReg) (cs : CReg) (rr : RReg) : RowSelects.Statement (.cat gd cs rr) := fun _ =>
  ⟨⟨"CAT", 0xFF8CCFFF, 0x63000000⟩, by decide, rfl,
    selects_cmdWord (a' := 0x8) (b' := 0xC) (c' := 0xC) (d' := 0xF) (e' := 0xF) (f' := 0xF) rfl rfl
      (nib_and_8 _) (nib_and_12 _) (nib_and_12 _) rfl rfl rfl (.inl (by decide))⟩

theorem RowSelects.cput (gs : GReg) (cs : CReg) (rr : RReg) : RowSelects.Statement (.cput gs cs rr) := fun _ =>
  ⟨⟨"CPUT", 0xFF8CCFFF, 0x64000000⟩, by decide, rfl,
    selects_cmdWord (a' := 0x8) (b' := 0xC) (c' := 0xC) (d' := 0xF) (e' := 0xF) (f' := 0xF) rfl rfl
      (nib_and_8 _) (nib_and_12 _) (nib_and_12 _) rfl rfl rfl (.inl (by decide))⟩

theorem RowSelects.cisnull (cs : CReg) : RowSelects.Statement (.cisnull cs) := fun _ =>
  ⟨⟨"CISNULL", 0xFFCFFFFF, 0x65000000⟩, by decide, rfl,
    selects_cmdWord (a' := 0xC) (b' := 0xF) (c' := 0xF) (d' := 0xF) (e' := 0xF) (f' := 0xF) rfl rfl
      (nib_and_12 _) rfl rfl rfl rfl rfl (.inl (by decide))⟩

theorem RowSelects.ccrop (cd cs : CReg) (rr : RReg) : RowSelects.Statement (.ccrop cd cs rr) := fun _ =>
  ⟨⟨"CCROP", 0xFFCCCFFF, 0x66000000⟩, by decide, rfl,
    selects_cmdWord (a' := 0xC) (b' := 0xC) (c' := 0xC) (d' := 0xF) (e' := 0xF) (f' := 0xF) rfl rfl
      (nib_and_12 _) (nib_and_12 _) (nib_and_12 _) rfl rfl rfl (.inl (by decide))⟩

theorem RowSelects.cfill (cs : CReg) (gs : GReg) : RowSelects.Statement (.cfill cs gs) := fun _ =>
  ⟨⟨"CFILL", 0xFFC8FFFF, 0x67000000⟩, by decide, rfl,
    selects_cmdWord (a' := 0xC) (b' := 0x8) (c' := 0xF) (d' := 0xF) (e' := 0xF) (f' := 0xF) rfl rfl
      (nib_and_12 _) (nib_and_8 _) rfl rfl rfl rfl (.inl (by decide))⟩

theorem RowSelects.cplot (cs : CReg) (rr : RReg) : RowSelects.Statement (.cplot cs rr) := fun _ =>
  ⟨⟨"CPLOT", 0xFFCCFFFF, 0x68000000⟩, by decide, rfl,
    selects_cmdWord (a' := 0xC) (b' := 0xC) (c' := 0xF) (d' := 0xF) (e' := 0xF) (f' := 0xF) rfl rfl
      (nib_and_12 _) (nib_and_12 _) rfl rfl rfl rfl (.inl (by decide))⟩

theorem RowSelects.cline (cs : CReg) (rr : RReg) : RowSelects.Statement (.cline cs rr) := fun _ =>
  ⟨⟨"CLINE", 0xFFCCFFFF, 0x69000000⟩, by decide, rfl,
    selects_cmdWord (a' := 0xC) (b' := 0xC) (c' := 0xF) (d' := 0xF) (e' := 0xF) (f' := 0xF) rfl rfl
      (nib_and_12 _) (nib_and_12 _) rfl rfl rfl rfl (.inl (by decide))⟩

end Sys2Proof.Laws
end

