-- ==== Sys2Proof/Tests/Slice0.lean ====
section
/-! SUPPORT. The model's own tests: the smoke test of WellFormed, a word of every constructor written out from
spec/30_encoding.md R61 to R64, at most two steps per command on values printed in the spec (the examples of the rules and
spec/95_test_vectors.md, MEM_WORDS = 1024 and a 16 by 16 Screen over cleared MEM), and for every statement with hypotheses
a state and operands that meet them. -/

namespace Sys2Proof.Tests

open Sys2Proof.Machine

/-! ### WellFormed -/

theorem test_lutrd_selector_6_is_well_formed : (Instr.lutrd 6 255).wellFormed = true := by decide
theorem test_lutrd_selector_7_is_refused : (Instr.lutrd 7 0).wellFormed = false := by decide
theorem test_lutrd_selector_15_is_refused : (Instr.lutrd 15 63).wellFormed = false := by decide

/-! ### Decoding: one word of every constructor, `OO a b c d e f` -/

theorem test_decode_pixel_words :
    decode 0x00000000 = .ok .nop ∧ decode 0x0153C000 = .ok (.frompix 5 3 12) ∧
    decode 0x027F1000 = .ok (.pixval 7 15 1) ∧ decode 0x03690000 = .ok (.rowbyte 6 9) ∧
    decode 0x046000A5 = .ok (.lutrd 6 0xA5) := by decide

theorem test_decode_compose_words :
    decode 0x053E0000 = .ok (.gmask 3 14) ∧ decode 0x06712340 = .ok (.glyph4 7 1 2 3 4) ∧
    decode 0x07127000 = .ok (.tallhalf2 1 2 7) ∧ decode 0x08654000 = .ok (.widehalf2 6 5 4) := by decide

theorem test_decode_transform_words :
    decode 0x10170000 = .ok (.gmov 1 7) ∧ decode 0x11260000 = .ok (.gflip 2 6) ∧
    decode 0x12350000 = .ok (.gmirror 3 5) ∧ decode 0x13430000 = .ok (.grot180 4 3) ∧
    decode 0x14520000 = .ok (.gtransp 5 2) ∧ decode 0x15610000 = .ok (.grot270 6 1) ∧
    decode 0x16700000 = .ok (.grot90 7 0) := by decide

theorem test_decode_measure_words :
    decode 0x20100000 = .ok (.mtop 1) ∧ decode 0x21200000 = .ok (.mbot 2) ∧ decode 0x22300000 = .ok (.mleft 3) ∧
    decode 0x23400000 = .ok (.mright 4) ∧ decode 0x24500000 = .ok (.gwidth 5) ∧
    decode 0x25700000 = .ok (.gheight 7) := by decide

theorem test_decode_merge_word : decode 0x30123400 = .ok (.gmerge 1 2 3 4) := by decide

theorem test_decode_shift_words :
    decode 0x40128000 = .ok (.gshl 1 2 8) ∧ decode 0x41231000 = .ok (.gshr 2 3 1) ∧
    decode 0x4234F000 = .ok (.gshu 3 4 15) ∧ decode 0x43457000 = .ok (.gshd 4 5 7) ∧
    decode 0x44562000 = .ok (.gcyl 5 6 2) ∧ decode 0x45673000 = .ok (.gcyr 6 7 3) ∧
    decode 0x46704000 = .ok (.gcyu 7 0 4) ∧ decode 0x47015000 = .ok (.gcyd 0 1 5) := by decide

theorem test_decode_rectangle_words :
    decode 0x50120000 = .ok (.rnorm 1 2) ∧ decode 0x51230000 = .ok (.rtoabs 2 3) ∧
    decode 0x52310000 = .ok (.rtoreg 3 1) ∧ decode 0x53123000 = .ok (.rclip 1 2 3) := by decide

theorem test_decode_canvas_words :
    decode 0x60120000 = .ok (.caddr 1 2) ∧ decode 0x61712000 = .ok (.cldg 7 1 2) ∧
    decode 0x62623000 = .ok (.cstg 6 2 3) ∧ decode 0x63531000 = .ok (.cat 5 3 1) ∧
    decode 0x64413000 = .ok (.cput 4 1 3) ∧ decode 0x65200000 = .ok (.cisnull 2) ∧
    decode 0x66123000 = .ok (.ccrop 1 2 3) ∧ decode 0x67370000 = .ok (.cfill 3 7) ∧
    decode 0x68210000 = .ok (.cplot 2 1) ∧ decode 0x69320000 = .ok (.cline 3 2) := by decide

/-- R66 steps 1 to 3, R68: one word for each reason a word is no command. -/
theorem test_decode_refuses :
    decode 0x09000000 = .error .reservedOpcode ∧ decode 0xFFFFFFFF = .error .reservedOpcode ∧
    decode 0x00000001 = .error .unusedFieldNotZero ∧ decode 0x01800000 = .error .registerOutOfFile ∧
    decode 0x60400000 = .error .registerOutOfFile ∧ decode 0x04700000 = .error .reservedSelector := by decide

theorem test_table_word : decodeTableWord 32 0x0460003F = some (.lutrd 6 63) ∧ decodeTableWord 32 0x17000000 = none := by
  decide

/-! ### Steps -/

/-- The state of spec/95_test_vectors.md after Reset, with MEM cleared. -/
def t0 : State := State.resetWith 1024 (.constant 0) ⟨16, 16⟩

/-- `s` after the one transaction `t`. -/
def did (t : Transaction) (s : State) : State :=
  match step { s with host := [t] } with
  | .next u => u
  | .fault f => nomatch f
  | .refused _ => s

/-- `s` after the one command word `w`. -/
def ran (w : CmdWord) (s : State) : State := did (.cmd w) s

/-- The test glyph F. -/
def f : Word := 0xFE8080F880808000

/-- The word of MEM at `a`. -/
def wordAt (s : State) (a : Nat) : Word := s.mem.read a

theorem test_nop : ran 0x00000000 (t0.setG 3 f) = t0.setG 3 f := by decide
theorem test_frompix : (ran 0x01032000 t0).G 0 = 0x0000100000000000 := by decide
theorem test_frompix_out_of_range : (ran 0x01780000 t0).statusWord = 0x202 ∧ (ran 0x01780000 t0).finfoWord = 0x101780000 := by
  decide
theorem test_pixval_set : (ran 0x02143000 (t0.setG 1 f)).res = 1 := by decide
theorem test_pixval_clear : (ran 0x02153000 (t0.setG 1 f)).res = 0 := by decide
theorem test_rowbyte : (ran 0x03130000 (t0.setG 1 f)).res = 0xF8 := by decide
theorem test_lutrd_transpose : (ran 0x0440000A t0).res = 17 := by decide
theorem test_lutrd_rotate90 : (ran 0x0460003F t0).res = 56 := by decide
theorem test_gmask : (ran 0x05250000 t0).G 2 = 0xF0F0F0F0F0F0F0F0 := by decide
theorem test_glyph4 :
    (ran 0x06401230 ((((t0.setG 0 0x1234).setG 1 0x5678).setG 2 0x9ABC).setG 3 0xDEF0)).G 4 = 0x152637489DAEBFC0 := by
  decide
theorem test_tallhalf2 : (ran 0x07201000 ((t0.setG 0 0x1234).setG 1 0x5678)).G 2 = 0x12345678 := by decide
theorem test_widehalf2 : (ran 0x08201000 ((t0.setG 0 0x1234).setG 1 0x5678)).G 2 = 0x15263748 := by decide
theorem test_gmov : (ran 0x10100000 (t0.setG 0 f)).G 1 = f := by decide
theorem test_gflip : (ran 0x11100000 (t0.setG 0 f)).G 1 = 0x00808080F88080FE := by decide
theorem test_gmirror : (ran 0x12100000 (t0.setG 0 f)).G 1 = 0x7F01011F01010100 := by decide
theorem test_grot180 : (ran 0x13100000 (t0.setG 0 f)).G 1 = 0x000101011F01017F := by decide
theorem test_gtransp : (ran 0x14100000 (t0.setG 0 f)).G 1 = 0xFE90909090808000 := by decide
theorem test_grot270 : (ran 0x15100000 (t0.setG 0 f)).G 1 = 0x7F09090909010100 := by decide
theorem test_grot90 : (ran 0x16100000 (t0.setG 0 f)).G 1 = 0x00808090909090FE := by decide
theorem test_grot90_in_place : (ran 0x16000000 (t0.setG 0 0x0100000000000000)).G 0 = 0x8000000000000000 := by decide
theorem test_mtop : (ran 0x20000000 (t0.setG 0 0x0000183C3C180000)).res = 2 := by decide
theorem test_mbot : (ran 0x21000000 (t0.setG 0 f)).res = 1 := by decide
theorem test_mleft : (ran 0x22000000 (t0.setG 0 0x0000100000000000)).res = 3 := by decide
theorem test_mright : (ran 0x23000000 (t0.setG 0 0x0000100000000000)).res = 4 := by decide
theorem test_gwidth : (ran 0x24000000 (t0.setG 0 f)).res = 7 := by decide
theorem test_gwidth_empty : (ran 0x24000000 t0).res = 0 := by decide
theorem test_gheight : (ran 0x25000000 (t0.setG 0 0x00000000000000FF)).res = 1 := by decide
theorem test_gheight_empty : (ran 0x25000000 t0).res = 0 := by decide
theorem test_gmerge :
    (ran 0x30301200 (((t0.setG 0 0x0123456789ABCDEF).setG 1 0xFEDCBA9876543210).setG 2 0x00000000FFFFFFFF)).G 3 =
      0x0123456776543210 := by decide
theorem test_gshl : (ran 0x40103000 (t0.setG 0 f)).G 1 = 0xF00000C000000000 := by decide
theorem test_gshl_out_of_range : (ran 0x40108000 (t0.setG 0 f)).cause = 2 := by decide
theorem test_gshr : (ran 0x41103000 (t0.setG 0 f)).G 1 = 0x1F10101F10101000 := by decide
theorem test_gshu : (ran 0x42103000 (t0.setG 0 f)).G 1 = 0xF880808000000000 := by decide
theorem test_gshd : (ran 0x43103000 (t0.setG 0 f)).G 1 = 0x000000FE8080F880 := by decide
theorem test_gcyl : (ran 0x44103000 (t0.setG 0 f)).G 1 = 0xF70404C704040400 := by decide
theorem test_gcyr : (ran 0x45103000 (t0.setG 0 f)).G 1 = 0xDF10101F10101000 := by decide
theorem test_gcyu : (ran 0x46103000 (t0.setG 0 f)).G 1 = 0xF880808000FE8080 := by decide
theorem test_gcyd : (ran 0x47103000 (t0.setG 0 f)).G 1 = 0x808000FE8080F880 := by decide
theorem test_rnorm : (ran 0x50100000 (t0.setR 0 ⟨5, 5, -3, -3⟩)).R 1 = ⟨2, 2, 3, 3⟩ := by decide
theorem test_rtoabs : (ran 0x51100000 (t0.setR 0 ⟨5, 5, -3, -3⟩)).R 1 = ⟨5, 5, 2, 2⟩ := by decide
theorem test_rtoreg : (ran 0x52100000 (t0.setR 0 ⟨5, 5, 2, 2⟩)).R 1 = ⟨5, 5, -3, -3⟩ := by decide
theorem test_rclip_true :
    let t := ran 0x53201000 ((t0.setR 0 ⟨-3, -2, 8, 8⟩).setR 1 ⟨0, 0, 16, 16⟩)
    t.R 2 = ⟨0, 0, 5, 6⟩ ∧ t.t = true := by decide
theorem test_rclip_false :
    let t := ran 0x53201000 ((t0.setR 0 ⟨20, 5, 3, 3⟩).setR 1 ⟨0, 0, 16, 16⟩)
    t.R 2 = ⟨20, 5, 23, 8⟩ ∧ t.t = false := by decide
theorem test_caddr : (ran 0x60000000 (t0.setR 0 ⟨3, 2, 0, 0⟩)).res = 35 := by decide
theorem test_cldg :
    (ran 0x61100000 ((t0.setMem (t0.mem.write 35 f)).setR 0 ⟨3, 2, 0, 0⟩)).G 1 = f := by decide
theorem test_cldg_outside : (ran 0x61100000 (t0.setR 0 ⟨16, 0, 0, 0⟩)).cause = 4 := by decide
theorem test_cstg :
    wordAt (ran 0x62200000 ((t0.setG 2 0x8040201008040201).setR 0 ⟨15, 15, 0, 0⟩)) 255 = 0x8040201008040201 := by decide
theorem test_cat_inside :
    let t := ran 0x63100000 ((t0.setG 1 f).setR 0 ⟨3, 2, 0, 0⟩)
    t.G 1 = 0 ∧ t.t = true := by decide
theorem test_cat_outside :
    let t := ran 0x63100000 (((t0.setG 1 f).setT true).setR 0 ⟨16, 0, 0, 0⟩)
    t.G 1 = 0 ∧ t.t = false ∧ t.fault = false := by decide
theorem test_cput_inside :
    let t := ran 0x64000000 ((t0.setG 0 f).setR 0 ⟨0, 1, 0, 0⟩)
    wordAt t 16 = f ∧ t.t = true := by decide
theorem test_cput_outside :
    let t := ran 0x64000000 (((t0.setG 0 f).setT true).setR 0 ⟨-1, 0, 0, 0⟩)
    t.mem = t0.mem ∧ t.t = false := by decide
theorem test_cisnull_null : (ran 0x65100000 t0).t = true := by decide
theorem test_cisnull_screen : (ran 0x65000000 (t0.setT true)).t = false := by decide
theorem test_ccrop :
    let t := ran 0x66101000 (t0.setR 1 ⟨4, 4, 8, 8⟩)
    t.C 1 = ⟨true, 68, 8, 8, 16⟩ ∧ t.t = true := by decide
theorem test_ccrop_outside :
    let t := ran 0x66101000 (((t0.setR 1 ⟨16, 16, 2, 2⟩).setC 1 ⟨true, 5, 1, 1, 1⟩).setT true)
    t.C 1 = ⟨false, 0, 0, 0, 0⟩ ∧ t.t = false := by decide
theorem test_cfill :
    let t := ran 0x67100000 ((t0.setC 1 ⟨true, 68, 2, 2, 16⟩).setG 0 f)
    wordAt t 68 = f ∧ wordAt t 69 = f ∧ wordAt t 70 = 0 ∧ wordAt t 84 = f ∧ wordAt t 85 = f ∧
      t.mem.cells.length = 4 := by decide
theorem test_cplot :
    let t := ran 0x68000000 (t0.setR 0 ⟨19, 9, 0, 0⟩)
    wordAt t 18 = 0x0010000000000000 ∧ t.t = true := by decide
theorem test_cplot_outside :
    let t := ran 0x68000000 ((t0.setR 0 ⟨128, 0, 0, 0⟩).setT true)
    t.mem = t0.mem ∧ t.t = false := by decide
theorem test_cline :
    let t := ran 0x69100000 ((t0.setC 1 ⟨true, 0, 2, 1, 2⟩).setR 0 ⟨0, 0, 15, 7⟩)
    wordAt t 0 = 0xC0300C0300000000 ∧ wordAt t 1 = 0x00000000C0300C03 := by decide
theorem test_cline_clipped :
    let t := ran 0x69100000 ((t0.setC 1 ⟨true, 0, 2, 1, 2⟩).setR 0 ⟨-4, -2, 20, 10⟩)
    wordAt t 0 = 0x8060180601000000 ∧ wordAt t 1 = 0x0000000080601806 := by decide

/-- A faulted state: CAUSE = 1, FINFO.SRC = 1, FINFO.INFO = the all-ones word. -/
def faulted : State := did (.cmd 0xFFFFFFFF) (t0.setG 1 f)

theorem test_illegal_word_is_recorded : faulted.statusWord = 0x102 ∧ faulted.finfoWord = 0x1FFFFFFFF := by decide
theorem test_regread_sign_extends : (did (.regRead 0x11) (t0.setR 0 ⟨0, -1, 0, 0⟩)).rsp = some 0xFFFFFFFFFFFFFFFF := by decide
theorem test_regwrite_ptr : (did (.regWrite 0x24 0x100000044) t0).C 1 = ⟨true, 68, 0, 0, 0⟩ := by decide
theorem test_memread_faulted : (did (.memRead 1024) faulted).rsp = some 0 ∧ (did (.memRead 1024) faulted).cause = 1 := by decide
theorem test_memwrite : wordAt (did (.memWrite 1023 f) t0) 1023 = f := by decide
theorem test_reset_leaves_mem :
    (did .reset (faulted.setMem (t0.mem.write 7 f))).fault = false ∧
    wordAt (did .reset (faulted.setMem (t0.mem.write 7 f))) 7 = f := by decide
theorem test_first_command_after_reset :
    ∃ t, step (State.reset.withFetchWord 32 0x05250000) = .next t ∧ t.G 2 = 0xF0F0F0F0F0F0F0F0 := ⟨_, rfl, by decide⟩
theorem test_write_of_the_power_on_value_unlists : (t0.mem.write 5 f).write 5 0 = t0.mem := by decide

/-- R85: the printed rows y = 0 and y = 4 of the permutation table, for each transform. -/
theorem test_perm_rows :
    [63, 62, 61, 60, 59, 58, 57, 56].map (perm 1) = [7, 6, 5, 4, 3, 2, 1, 0] ∧
    [31, 30, 29, 28, 27, 26, 25, 24].map (perm 1) = [39, 38, 37, 36, 35, 34, 33, 32] ∧
    [31, 30, 29, 28, 27, 26, 25, 24].map (perm 2) = [24, 25, 26, 27, 28, 29, 30, 31] ∧
    [31, 30, 29, 28, 27, 26, 25, 24].map (perm 3) = [32, 33, 34, 35, 36, 37, 38, 39] ∧
    [31, 30, 29, 28, 27, 26, 25, 24].map (perm 4) = [59, 51, 43, 35, 27, 19, 11, 3] ∧
    [31, 30, 29, 28, 27, 26, 25, 24].map (perm 5) = [3, 11, 19, 27, 35, 43, 51, 59] ∧
    [31, 30, 29, 28, 27, 26, 25, 24].map (perm 6) = [60, 52, 44, 36, 28, 20, 12, 4] := by decide

/-! ### States and operands that meet the statements' hypotheses

Each theorem names the statement it is for; its conjuncts are the hypotheses of the statement's clauses, at boundary values
of their ranges. -/

/-- A canvas that fits exactly: its last cell is the last word of MEM. -/
def lastFit : Canvas := ⟨true, 768, 16, 16, 16⟩

/-- A canvas whose last cell is one word beyond MEM. -/
def oneTooHigh : Canvas := ⟨true, 769, 16, 16, 16⟩

/-- A malformed canvas: the pointer is null and the sizes are not 0. -/
def malformed : Canvas := ⟨false, 0, 3, 3, 3⟩

/-- A well-formed canvas with no cell, whose pointer is not null. -/
def noCells : Canvas := ⟨true, 0, 0, 5, 0⟩

theorem test_witness_DecodeReadsBackEveryWellFormedCommand :
    (Instr.lutrd 6 255).wellFormed = true ∧ (Instr.frompix 7 15 15).wellFormed = true := by decide

theorem test_witness_DecodedWordsAreEncodings : decode 0x046000FF = .ok (.lutrd 6 255) ∧ decode 0x69330000 = .ok (.cline 3 3) := by
  decide

theorem test_witness_OpcodeTableSelectsExactlyTheCommands :
    t0.fault = false ∧ (⟨"LUTRD", 0xFF8FFF00, 0x04000000⟩ : OpRow) ∈ opcodeTable ∧
    (⟨"LUTRD", 0xFF8FFF00, 0x04000000⟩ : OpRow).selects 0x046000FF = true ∧
    (⟨"LUTRD", 0xFF8FFF00, 0x04000000⟩ : OpRow).selects 0x04700000 = false := by decide

theorem test_witness_ReservedEncodingsRaiseIllegalCmd :
    t0.fault = false ∧ (opOf 0x09000000).toNat = 0x09 ∧ (opOf 0x6AFFFFFF).toNat = 0x6A ∧ (opOf 0xFFFFFFFF).toNat = 0xFF ∧
    (⟨"CFILL", 0xFFC8FFFF, 0x67000000⟩ : OpRow) ∈ opcodeTable ∧
    (0x67400000 : CmdWord) &&& 0xFF000000 = 0x67000000 ∧ (0x67400000 : CmdWord) &&& 0xFFC8FFFF ≠ 0x67000000 ∧
    (0x67000001 : CmdWord) &&& 0xFF000000 = 0x67000000 ∧ (0x67000001 : CmdWord) &&& 0xFFC8FFFF ≠ 0x67000000 := by decide

theorem test_witness_TheEighthTransformIsReserved :
    t0.fault = false ∧ opOf 0x17100000 = 0x17 ∧ opOf 0x0470003F = 0x04 ∧ faOf 0x0470003F = 7 := by decide

theorem test_witness_StepRunsTheDecodedCommand :
    ({ t0 with host := [.cmd 0x05250000, .reset] } : State).host = .cmd 0x05250000 :: [.reset] ∧ t0.fault = false ∧
    decode 0x05250000 = .ok (.gmask 2 5) ∧ decode 0x17000000 = .error .reservedOpcode ∧ t0.host = [] := by decide

theorem test_witness_FaultedBlockIsFrozen :
    faulted.fault = true ∧ hostReg 0x32 = some .finfo ∧ hostReg 0x33 = none ∧
    (1023 : BitVec 32).toNat < faulted.mem.words ∧ faulted.mem.words ≤ (1024 : BitVec 32).toNat := by decide

theorem test_witness_ResetAndTheFirstReset : (1 : CReg) ≠ 0 ∧ (3 : CReg) ≠ 0 := by decide

/-- One faulting transaction of each kind that can fault. -/
theorem test_witness_FaultsArePrecise :
    t0.fault = false ∧
    (∃ t, perform (.cmd 0xFFFFFFFF) t0 = .next t ∧ t.fault = true) ∧
    (∃ t, perform (.regRead 0x08) t0 = .next t ∧ t.fault = true) ∧
    (∃ t, perform (.regWrite 0xFF 1) t0 = .next t ∧ t.fault = true) ∧
    (∃ t, perform (.memRead 1024) t0 = .next t ∧ t.fault = true) ∧
    (∃ t, perform (.memWrite 0xFFFFFFFF 1) t0 = .next t ∧ t.fault = true) :=
  ⟨rfl, ⟨_, rfl, by decide⟩, ⟨_, rfl, by decide⟩, ⟨_, rfl, by decide⟩, ⟨_, rfl, by decide⟩, ⟨_, rfl, by decide⟩⟩

/-- A command that faults and one that does not, also for the frame statements. -/
theorem test_witness_CommandsRaiseOnlyTheirCauses :
    (∃ t, exec (.frompix 0 8 0) t0 = .next t ∧ t.fault = true) ∧
    (∃ t, exec (.frompix 0 7 0) t0 = .next t ∧ t.fault = false) :=
  ⟨⟨_, rfl, by decide⟩, ⟨_, rfl, by decide⟩⟩

/-- The invariant holds with FAULT = 0, and in a fault of each source. -/
theorem test_witness_StepKeepsTheInvariant :
    State.Inv { t0 with host := [.memWrite 1023 f] } ∧ faulted.Inv ∧ (did (.regRead 0x33) t0).Inv ∧
    (did (.memRead 1024) t0).Inv ∧ (did (.memWrite 1023 f) t0).Inv ∧
    ∃ t, step { t0 with host := [.memWrite 1023 f] } = .next t :=
  ⟨by decide, by decide, by decide, by decide, by decide, ⟨_, rfl⟩⟩

theorem test_witness_CommandsChangeOnlyTheirDestinationRegister :
    (∃ t, exec (.rclip 2 0 1) t0 = .next t) ∧ (Instr.rclip 2 0 1).footprint.g ≠ some 0 ∧
    (Instr.rclip 2 0 1).footprint.r ≠ some 3 ∧ (Instr.rclip 2 0 1).footprint.c ≠ some 0 :=
  ⟨⟨_, rfl⟩, by decide, by decide, by decide⟩

theorem test_witness_OnlyTheNamedCommandsWriteTAndRes :
    (∃ t, exec (.caddr 0 0) t0 = .next t) ∧
    (Instr.caddr 0 0).mnemonic ∉ ["RCLIP", "CCROP", "CAT", "CPUT", "CISNULL", "CPLOT"] ∧
    (Instr.cat 0 0 0).mnemonic ∉
      ["PIXVAL", "ROWBYTE", "LUTRD", "MTOP", "MBOT", "MLEFT", "MRIGHT", "GWIDTH", "GHEIGHT", "CADDR"] :=
  ⟨⟨_, rfl⟩, by decide, by decide⟩

/-- CSTG at the cell (15, 15) of the Screen stores to word 255 and not to its neighbours. -/
theorem test_witness_CommandsChangeOnlyTheWordsTheyStoreTo :
    let s := t0.setR 0 ⟨15, 15, 0, 0⟩
    (∃ t, exec (.cstg 2 0 0) s = .next t) ∧ (Stored.cell 0 0).hits s 255 ∧
    ¬(Stored.cell 0 0).hits s 254 ∧ ¬(Stored.cell 0 0).hits s 256 :=
  ⟨⟨_, rfl⟩, by unfold Stored.hits; decide, by unfold Stored.hits; decide, by unfold Stored.hits; decide⟩

theorem test_witness_NoCommandReadsTOrRes :
    let u := (t0.setT true).setRes 5
    t0.g = u.g ∧ t0.r = u.r ∧ t0.c = u.c ∧ t0.mem = u.mem ∧ t0.fault = u.fault ∧ t0.cause = u.cause ∧
    t0.info = u.info ∧ t0.src = u.src ∧ t0.t ≠ u.t ∧ t0.res ≠ u.res ∧
    (∃ t, exec (.cat 0 0 0) t0 = .next t) ∧ (∃ t, exec (.cat 0 0 0) u = .next t) :=
  ⟨rfl, rfl, rfl, rfl, rfl, rfl, rfl, rfl, by decide, by decide, ⟨_, rfl⟩, ⟨_, rfl⟩⟩

theorem test_witness_RegWriteReplacesTheNamedField : t0.fault = false ∧ faulted.fault = true := by decide

theorem test_witness_UnmappedRegistersRaiseBadReg :
    t0.fault = false ∧ faulted.fault = true ∧
    ∀ n ∈ ([0x08, 0x0F, 0x33, 0xFF] : List (BitVec 8)),
      (0x08 ≤ n.toNat ∧ n.toNat ≤ 0x0F) ∨ (0x33 ≤ n.toNat ∧ n.toNat ≤ 0xFF) := by decide

theorem test_witness_HostMemoryAccess :
    (1023 : BitVec 32).toNat < t0.mem.words ∧ t0.mem.words ≤ (1024 : BitVec 32).toNat ∧ t0.fault = false ∧
    faulted.mem.words ≤ (1024 : BitVec 32).toNat ∧ faulted.fault = true := by decide

theorem test_witness_MemoriesThatReadAlikeAreEqual :
    let m := (t0.mem.write 3 f).write 1 5
    let n := ((t0.mem.write 1 7).write 3 f).write 1 5
    m.WF ∧ n.WF ∧ m.words = n.words ∧ m.powerOn = n.powerOn ∧ ∀ a, m.read a = n.read a :=
  ⟨by decide, by decide, rfl, rfl, fun _ => rfl⟩

/-- Cell (4, 4) of the Screen is cell (0, 0) of its crop at (4, 4). -/
theorem test_witness_AliasingIsVisibleAtOnce :
    let s := ((t0.setR 0 ⟨4, 4, 0, 0⟩).setC 1 ⟨true, 68, 8, 8, 16⟩)
    (s.C 0).WF ∧ (s.C 0).Fits s.mem.words ∧ (s.C 0).InCells (s.rect 0).x (s.rect 0).y ∧
    (s.C 1).WF ∧ (s.C 1).Fits s.mem.words ∧ (s.C 1).InCells (s.rect 1).x (s.rect 1).y ∧
    (s.C 1).cellAddr (s.rect 1).x (s.rect 1).y = (s.C 0).cellAddr (s.rect 0).x (s.rect 0).y ∧
    ((68 : BitVec 32).toNat : Int) = (s.C 0).cellAddr (s.rect 0).x (s.rect 0).y := by decide

theorem test_witness_NopChangesNothing : t0.fault = false ∧ opOf 0x00000001 = 0 ∧ (0x00000001 : CmdWord) ≠ 0 := by decide

theorem test_witness_FrompixSetsExactlyOnePixel :
    (7 : Nibble).toNat ≤ 7 ∧ (0 : Nibble).toNat ≤ 7 ∧ 7 < (8 : Nibble).toNat ∧ 7 < (15 : Nibble).toNat := by decide

theorem test_witness_PixvalAndRowbyteReadTheGlyph :
    (7 : Nibble).toNat ≤ 7 ∧ (0 : Nibble).toNat ≤ 7 ∧ 7 < (8 : Nibble).toNat := by decide

theorem test_witness_LutrdReturnsTheTableEntry :
    (6 : Nibble).toNat < 7 ∧ 7 ≤ (7 : Nibble).toNat ∧ (63 : BitVec 8).toNat ≤ 63 ∧ 63 < (64 : BitVec 8).toNat := by decide

theorem test_witness_MeasuresOfANonEmptyGlyph :
    (0x8000000000000000 : Word) ≠ 0 ∧ marginBottom 0x8000000000000000 = 7 ∧ marginTop 0x8000000000000000 = 0 := by decide

/-- `P` may be a function that moves bits: here the exchange of the 32-bit halves. -/
theorem test_witness_MergeLaws :
    ∀ (g : Word) (i : Nat), i < 64 → (g.rotateLeft 32).getLsbD i = g.getLsbD ((i + 32) % 64) := by
  intro g i h
  by_cases h2 : i < 32
  · simp [BitVec.getLsbD_rotateLeft, h2, Nat.mod_eq_of_lt (show i + 32 < 64 by omega), Nat.add_comm]
  · simp [h2, h, show (i + 32) % 64 = i - 32 by omega]
    rfl

theorem test_witness_ShiftAndCycleCounts :
    (0 : Nibble).toNat ≤ 7 ∧ (7 : Nibble).toNat ≤ 7 ∧ 7 < (8 : Nibble).toNat ∧ 7 < (15 : Nibble).toNat := by decide

/-- `x + w = -2^31` and `w = -(2^31 - 1)` are still in range; one less is not. -/
theorem test_witness_RnormNormalizes :
    let a := (t0.setR 0 ⟨-2147483647, 0, -1, 0⟩).rect 0
    let b := (t0.setR 0 ⟨-2147483648, 0, -1, 0⟩).rect 0
    let c := (t0.setR 0 ⟨0, 0, 0, -2147483648⟩).rect 0
    (a.w < 0 ∧ a.x + a.w = -(2 ^ 31)) ∧ (b.w < 0 ∧ b.x + b.w < -(2 ^ 31)) ∧ (c.h < 0 ∧ c.h = -(2 ^ 31)) ∧
    0 ≤ (t0.rect 0).w ∧ 0 ≤ (t0.rect 0).h := by decide

theorem test_witness_RtoabsAndRtoregConvert :
    let a := (t0.setR 0 ⟨2147483646, 0, 1, 0⟩).rect 0
    let b := (t0.setR 0 ⟨2147483647, 0, 1, 0⟩).rect 0
    let c := (t0.setR 0 ⟨1, 0, -2147483647, 0⟩).rect 0
    let d := (t0.setR 0 ⟨1, 0, -2147483648, 0⟩).rect 0
    (InI32 (a.x + a.w) ∧ InI32 (a.y + a.h)) ∧ ¬InI32 (b.x + b.w) ∧ (InI32 (c.w - c.x) ∧ InI32 (c.h - c.y)) ∧
    ¬InI32 (d.w - d.x) := by decide

/-- The rectangle whose left edge is `W` has no cell in the bounds, the one that ends there has one. -/
theorem test_witness_ClipIsTheIntersection :
    let a : IRect := ⟨15, 15, 1, 1⟩
    let b : IRect := ⟨16, 0, 4, 4⟩
    InI32 (a.x + a.w) ∧ InI32 (a.y + a.h) ∧ InI32 (b.x + b.w) ∧ InI32 (b.y + b.h) ∧
    (∃ i j : Int, (min a.x (a.x + a.w) ≤ i ∧ i < max a.x (a.x + a.w)) ∧ (min a.y (a.y + a.h) ≤ j ∧ j < max a.y (a.y + a.h)) ∧
      (0 ≤ i ∧ i < 16) ∧ (0 ≤ j ∧ j < 16)) ∧
    (¬∃ i j : Int, (min b.x (b.x + b.w) ≤ i ∧ i < max b.x (b.x + b.w)) ∧ (min b.y (b.y + b.h) ≤ j ∧ j < max b.y (b.y + b.h)) ∧
      (0 ≤ i ∧ i < 16) ∧ (0 ≤ j ∧ j < 16)) ∧
    ¬(InI32 ((2147483647 : Int) + 1) ∧ InI32 (0 + 1)) := by
  refine ⟨by decide, by decide, by decide, by decide, ⟨15, 15, by decide⟩, ?_, by decide⟩
  rintro ⟨i, j, h1, -, h2, -⟩
  dsimp only at h1
  omega

theorem test_witness_ClippedRectanglesStayAsTheyAre :
    clip ⟨18, 2, -4, 3⟩ 16 16 = .ok (true, ⟨14, 2, 2, 3⟩) ∧ clip ⟨16, 16, -16, -16⟩ 16 16 = .ok (true, ⟨0, 0, 16, 16⟩) ∧
    0 ≤ min (16 : Int) (16 + -16) ∧ max (16 : Int) (16 + -16) ≤ 16 := by decide

theorem test_witness_RclipStoresTheClippedRectangle :
    let a := (t0.setR 0 ⟨2147483647, 0, 0, 1⟩).rect 0
    let b := (t0.setR 0 ⟨2147483647, 0, 1, 1⟩).rect 0
    (InI32 (a.x + a.w) ∧ InI32 (a.y + a.h)) ∧ ¬(InI32 (b.x + b.w) ∧ InI32 (b.y + b.h)) := by decide

/-- For every canvas statement: a malformed canvas, one with no cell, one that fits exactly and one that is a word too
high, and points on both sides of its edge. -/
theorem test_witness_CanvasStatements :
    ¬malformed.WF ∧ (noCells.WF ∧ noCells.IsNull ∧ noCells.Fits 1024) ∧ (Canvas.null.WF ∧ Canvas.null.v = false) ∧
    (lastFit.WF ∧ ¬lastFit.IsNull ∧ lastFit.Fits 1024 ∧ lastFit.InCells 15 15 ∧ ¬lastFit.InCells 16 15 ∧
      ¬lastFit.InCells (-1) 0 ∧ lastFit.cellAddr 15 15 = 1023) ∧
    (¬oneTooHigh.Fits 1024 ∧ oneTooHigh.WF) ∧
    (lastFit.InPixels 127 127 ∧ ¬lastFit.InPixels 128 0 ∧ ¬lastFit.InPixels 0 (-1)) :=
  ⟨by decide, by decide, by decide, by decide, by decide, by decide⟩

/-- The same hypotheses on the operands of a command: `C[1]` and the point in `R[0]`. -/
theorem test_witness_CanvasCommands :
    let s := (t0.setC 1 lastFit).setR 0 ⟨15, 15, 0, 0⟩
    (s.C 1).WF ∧ ¬(s.C 1).IsNull ∧ (s.C 1).InCells (s.rect 0).x (s.rect 0).y ∧ (s.C 1).Fits s.mem.words ∧
    (s.C 1).InPixels (s.rect 0).x (s.rect 0).y ∧ ¬((s.C 1).v = false ∨ (s.C 1).width = 0 ∨ (s.C 1).height = 0) := by
  decide

/-- CCROP: an overflowing rectangle, no intersection, a base of `2^32`, and a base of `2^32 - 1`. -/
theorem test_witness_CcropMakesAViewOfTheSameWords :
    let c : Canvas := ⟨true, 4294967280, 32, 32, 32⟩
    c.WF ∧ ¬InI32 ((2147483647 : Int) + 1) ∧ clip ⟨32, 0, 4, 4⟩ 32 32 = .ok (false, ⟨32, 0, 36, 4⟩) ∧
    clip ⟨16, 0, 4, 4⟩ 32 32 = .ok (true, ⟨16, 0, 4, 4⟩) ∧ 2 ^ 32 ≤ (c.base.toNat : Int) + 16 + 0 * c.stride.toInt ∧
    clip ⟨15, 0, 4, 4⟩ 32 32 = .ok (true, ⟨15, 0, 4, 4⟩) ∧ (c.base.toNat : Int) + 15 + 0 * c.stride.toInt < 2 ^ 32 ∧
    (noCells.WF ∧ noCells.IsNull) := by decide

theorem test_witness_LineVisitsEachPointOnce :
    (lineSeq 0 0 4 2)[3]? = some (3, 2) ∧ (lineSeq 0 0 4 2)[3 + 1]? = some (4, 2) ∧
    (3 - 0 : Int).natAbs = (-3 - 0 : Int).natAbs ∧ (7 - 7 : Int).natAbs = 0 := by decide

end Sys2Proof.Tests
end

section
/-! PROOFS. The host's access to the registers (spec/10_state.md R34 to R37): which register a number names, what
`RegRead` and `RegWrite` do in each case, and the obligations of the family that follow. -/

namespace Sys2Proof.Machine

/-! ### The register map (R34) -/

theorem hostReg_eq_none_iff (n : BitVec 8) :
    hostReg n = none ↔ (0x08 ≤ n.toNat ∧ n.toNat ≤ 0x0F) ∨ (0x33 ≤ n.toNat ∧ n.toNat ≤ 0xFF) := by
  have hlt : n.toNat < 256 := n.isLt
  unfold hostReg
  split_ifs <;> simp only [false_iff, true_iff] <;> omega

theorem hostReg_glyph (i : GReg) : hostReg (BitVec.ofNat 8 i.val) = some (.g i) := by
  revert i; decide

theorem hostReg_rect (n : RReg) :
    hostReg (BitVec.ofNat 8 (0x10 + 4 * n.val)) = some (.r n .x) ∧
    hostReg (BitVec.ofNat 8 (0x11 + 4 * n.val)) = some (.r n .y) ∧
    hostReg (BitVec.ofNat 8 (0x12 + 4 * n.val)) = some (.r n .w) ∧
    hostReg (BitVec.ofNat 8 (0x13 + 4 * n.val)) = some (.r n .h) := by
  revert n; decide

theorem hostReg_canvas (n : CReg) :
    hostReg (BitVec.ofNat 8 (0x20 + 4 * n.val)) = some (.c n .ptr) ∧
    hostReg (BitVec.ofNat 8 (0x21 + 4 * n.val)) = some (.c n .width) ∧
    hostReg (BitVec.ofNat 8 (0x22 + 4 * n.val)) = some (.c n .height) ∧
    hostReg (BitVec.ofNat 8 (0x23 + 4 * n.val)) = some (.c n .stride) := by
  revert n; decide

theorem hostReg_status : hostReg 0x30 = some .status := by decide
theorem hostReg_res : hostReg 0x31 = some .res := by decide
theorem hostReg_finfo : hostReg 0x32 = some .finfo := by decide

/-! ### A fault of a host access -/

theorem State.raiseUnlessFaulted_of_faulted {s : State} (hf : s.fault = true) (k : Cause) (src : Source)
    (info : BitVec 32) : s.raiseUnlessFaulted k src info = s :=
  if_pos hf

theorem State.raiseUnlessFaulted_of_not_faulted {s : State} (hf : s.fault = false) (k : Cause) (src : Source)
    (info : BitVec 32) : s.raiseUnlessFaulted k src info = s.raise k src info :=
  if_neg (by simp [hf])

/-! ### RegRead (R35, R37) -/

theorem perform_regRead_of_mapped {n : BitVec 8} {q : HostReg} (hn : hostReg n = some q) (s : State) :
    perform (.regRead n) s = .next (s.answer (s.readReg q)) := by
  simp [perform, State.regRead, hn]

theorem perform_regRead_of_unmapped {n : BitVec 8} (hn : hostReg n = none) (s : State) :
    perform (.regRead n) s = .next ((s.raiseUnlessFaulted .badReg .reg (n.setWidth 32)).answer 0) := by
  simp [perform, State.regRead, hn]

/-- PTR as a number: the bit v stands at bit 32, above the 32 bits of the base. -/
theorem Canvas.get_ptr (d : Canvas) :
    d.get .ptr = BitVec.ofNat 64 (2 ^ 32 * d.v.toNat + d.base.toNat) := by
  have hv : d.v.toNat < 2 := Bool.toNat_lt d.v
  have hbase : d.base.toNat < 2 ^ 32 := d.base.isLt
  apply BitVec.eq_of_toNat_eq
  simp only [Canvas.get, BitVec.toNat_append, BitVec.toNat_ofNat, BitVec.toNat_ofBool, Nat.zero_mod,
    Nat.zero_shiftLeft, Nat.zero_or]
  rw [← Nat.shiftLeft_add_eq_or_of_lt hbase, Nat.shiftLeft_eq]
  omega

/-! ### RegWrite (R36, R37) -/

theorem perform_regWrite_of_mapped {n : BitVec 8} {q : HostReg} (hn : hostReg n = some q) {s : State}
    (hf : s.fault = false) (v : Word) : perform (.regWrite n v) s = .next (s.writeReg v q) := by
  simp [perform, State.regWrite, hn, hf]

theorem perform_regWrite_of_unmapped {n : BitVec 8} (hn : hostReg n = none) (s : State) (v : Word) :
    perform (.regWrite n v) s = .next (s.raiseUnlessFaulted .badReg .reg (n.setWidth 32)) := by
  simp [perform, State.regWrite, hn]

/-- A faulted block ignores every write, mapped or not (R206). -/
theorem perform_regWrite_of_faulted {s : State} (hf : s.fault = true) (n : BitVec 8) (v : Word) :
    perform (.regWrite n v) s = .next s := by
  cases hn : hostReg n with
  | none => rw [perform_regWrite_of_unmapped hn, State.raiseUnlessFaulted_of_faulted hf]
  | some q => simp [perform, State.regWrite, hn, hf]

end Sys2Proof.Machine

namespace Sys2Proof.Proofs
open Sys2Proof.Machine

/-- Settles O21: each number is mapped to the register it names, and the read answers that register's value. -/
theorem regReadReturnsTheNamedRegister : Obligations.RegReadReturnsTheNamedRegister := by
  intro s
  refine ⟨fun i => perform_regRead_of_mapped (hostReg_glyph i) s, fun n => ?rect, fun n => ?canvas,
    perform_regRead_of_mapped hostReg_status s, perform_regRead_of_mapped hostReg_res s,
    perform_regRead_of_mapped hostReg_finfo s⟩
  case rect =>
    obtain ⟨hx, hy, hw, hh⟩ := hostReg_rect n
    exact ⟨perform_regRead_of_mapped hx s, perform_regRead_of_mapped hy s, perform_regRead_of_mapped hw s,
      perform_regRead_of_mapped hh s⟩
  case canvas =>
    obtain ⟨hptr, hwidth, hheight, hstride⟩ := hostReg_canvas n
    refine ⟨?ptr, perform_regRead_of_mapped hwidth s, perform_regRead_of_mapped hheight s,
      perform_regRead_of_mapped hstride s⟩
    rw [perform_regRead_of_mapped hptr, State.readReg, Canvas.get_ptr]

/-- Settles O22: a faulted block ignores the write; otherwise the number's register takes it. -/
theorem regWriteReplacesTheNamedField : Obligations.RegWriteReplacesTheNamedField := by
  refine ⟨fun s n v hf => perform_regWrite_of_faulted hf n v, fun s v hf => ?_⟩
  refine ⟨fun i => perform_regWrite_of_mapped (hostReg_glyph i) hf v, fun n => ?rect, fun n => ?canvas, ?readOnly⟩
  case rect =>
    obtain ⟨hx, hy, hw, hh⟩ := hostReg_rect n
    exact ⟨perform_regWrite_of_mapped hx hf v, perform_regWrite_of_mapped hy hf v,
      perform_regWrite_of_mapped hw hf v, perform_regWrite_of_mapped hh hf v⟩
  case canvas =>
    obtain ⟨hptr, hwidth, hheight, hstride⟩ := hostReg_canvas n
    exact ⟨perform_regWrite_of_mapped hptr hf v, perform_regWrite_of_mapped hwidth hf v,
      perform_regWrite_of_mapped hheight hf v, perform_regWrite_of_mapped hstride hf v⟩
  case readOnly =>
    rintro n (rfl | rfl | rfl)
    · exact perform_regWrite_of_mapped hostReg_status hf v
    · exact perform_regWrite_of_mapped hostReg_res hf v
    · exact perform_regWrite_of_mapped hostReg_finfo hf v

/-- Settles O23: the two ranges are exactly the numbers the register map leaves out. -/
theorem unmappedRegistersRaiseBadReg : Obligations.UnmappedRegistersRaiseBadReg := by
  intro s n v hrange
  have hn : hostReg n = none := (hostReg_eq_none_iff n).mpr hrange
  rw [perform_regRead_of_unmapped hn, perform_regWrite_of_unmapped hn]
  refine ⟨fun hf => ?_, fun hf => ?_⟩
  · rw [State.raiseUnlessFaulted_of_not_faulted hf]
    exact ⟨rfl, rfl⟩
  · rw [State.raiseUnlessFaulted_of_faulted hf]
    exact ⟨rfl, rfl⟩

end Sys2Proof.Proofs
end

section
/-! PROOFS. The host's access to MEM (spec/20_memory.md R48): what `MemRead` and `MemWrite` do inside and outside MEM,
and the obligation of the family that follows. -/

namespace Sys2Proof.Machine

/-- A write updates the one address it names. -/
theorem Memory.updated_write (m : Memory) (a : Nat) (v : Word) : m.Updated (m.write a v) (fun b => b = a) v := by
  refine ⟨m.write_words a v, m.write_powerOn a v, fun b hb => ?_, fun b hb => m.read_write_ne v hb⟩
  subst hb
  exact m.read_write_self b v

/-! ### MemRead -/

theorem perform_memRead_of_inside {s : State} {a : BitVec 32} (ha : a.toNat < s.mem.words) :
    perform (.memRead a) s = .next (s.answer (s.mem.read a.toNat)) := by
  rw [perform, State.hostMemRead, if_pos ha]

theorem perform_memRead_of_outside {s : State} {a : BitVec 32} (ha : s.mem.words ≤ a.toNat) :
    perform (.memRead a) s = .next ((s.raiseUnlessFaulted .memRange .mem a).answer 0) := by
  rw [perform, State.hostMemRead, if_neg ha.not_gt]

/-! ### MemWrite -/

/-- A faulted block ignores every write, inside MEM or not (R206). -/
theorem perform_memWrite_of_faulted {s : State} (hf : s.fault = true) (a : BitVec 32) (v : Word) :
    perform (.memWrite a v) s = .next s := by
  rw [perform, State.hostMemWrite, if_pos hf]

theorem perform_memWrite_of_inside {s : State} {a : BitVec 32} (hf : s.fault = false) (ha : a.toNat < s.mem.words)
    (v : Word) : perform (.memWrite a v) s = .next (s.setMem (s.mem.write a.toNat v)) := by
  simp [perform, State.hostMemWrite, hf, ha]

theorem perform_memWrite_of_outside {s : State} {a : BitVec 32} (hf : s.fault = false) (ha : s.mem.words ≤ a.toNat)
    (v : Word) : perform (.memWrite a v) s = .next (s.raise .memRange .mem a) := by
  simp [perform, State.hostMemWrite, hf, ha.not_gt]

end Sys2Proof.Machine

namespace Sys2Proof.Proofs
open Sys2Proof.Machine

/-- Settles O24: each access by whether it lies inside MEM and whether the block has faulted. -/
theorem hostMemoryAccess : Obligations.HostMemoryAccess := by
  intro s a v
  refine ⟨perform_memRead_of_inside, fun ha hf => ⟨?readRaises, perform_memWrite_of_outside hf ha v⟩,
    fun ha hf => ?readFaulted, fun hf => perform_memWrite_of_faulted hf a v,
    fun hf ha => ⟨_, perform_memWrite_of_inside hf ha v, s.mem.updated_write a.toNat v⟩⟩
  case readRaises => rw [perform_memRead_of_outside ha, State.raiseUnlessFaulted_of_not_faulted hf]
  case readFaulted => rw [perform_memRead_of_outside ha, State.raiseUnlessFaulted_of_faulted hf]

end Sys2Proof.Proofs
end

section
/-! PROOFS. Which words decode (spec/30_encoding.md R61 to R68): a word that decodes is the word of its command and its
row of the opcode table selects it, so a word that no row selects raises ILLEGAL_CMD; and the obligation that follows. -/

namespace Sys2Proof
open Laws

/-! ### What an accepted word holds, field by field (R66 steps 2 and 3) -/

theorem unused_eq_ok_iff {fs : List Nibble} {k : Except DecodeError Instr} {i : Instr} :
    unused fs k = .ok i ↔ (∀ f ∈ fs, f = 0) ∧ k = .ok i := by
  refine ⟨unused_eq_ok, fun ⟨hfs, hk⟩ => ?_⟩
  rw [unused, if_pos (by simpa using hfs), hk]

theorem gField_eq_ok_iff {f : Nibble} {k : GReg → Except DecodeError Instr} {i : Instr} :
    gField f k = .ok i ↔ ∃ g, f = nib g ∧ k g = .ok i :=
  ⟨gField_eq_ok, by rintro ⟨g, rfl, hk⟩; rwa [gField_nib]⟩

theorem rField_eq_ok_iff {f : Nibble} {k : RReg → Except DecodeError Instr} {i : Instr} :
    rField f k = .ok i ↔ ∃ r, f = nib r ∧ k r = .ok i :=
  ⟨rField_eq_ok, by rintro ⟨r, rfl, hk⟩; rwa [rField_nib]⟩

theorem cField_eq_ok_iff {f : Nibble} {k : CReg → Except DecodeError Instr} {i : Instr} :
    cField f k = .ok i ↔ ∃ c, f = nib c ∧ k c = .ok i :=
  ⟨cField_eq_ok, by rintro ⟨c, rfl, hk⟩; rwa [cField_nib]⟩

theorem selector_eq_ok_iff {f : Nibble} {k : Except DecodeError Instr} {i : Instr} :
    selector f k = .ok i ↔ f.toNat < 7 ∧ k = .ok i :=
  ⟨selector_eq_ok, fun ⟨hf, hk⟩ => by rw [selector, if_pos hf, hk]⟩

/-! ### From a decoded command back to its word -/

theorem nibbles_extract_high (a b : Nibble) : (a ++ b).extractLsb' 4 4 = a := by
  revert a b; decide

theorem nibbles_extract_low (a b : Nibble) : (a ++ b).extractLsb' 0 4 = b := by
  revert a b; decide

/-- Row by row: what the row's fields are when it accepts them, they are again when the encoder writes the command. -/
theorem encode_of_decodeFields {op : BitVec 8} {a b c d e f : Nibble} {i : Instr}
    (h : decodeFields op a b c d e f = .ok i) : encode i = cmdWord op a b c d e f ∧ i.wellFormed = true := by
  unfold decodeFields at h
  split at h
  case h_46 => cases h
  all_goals
    rename_i hop
    replace hop := congrArg (BitVec.ofNat 8) hop
    rw [BitVec.ofNat_toNat, BitVec.setWidth_eq] at hop
    revert h
    simp only [unused_eq_ok_iff, gField_eq_ok_iff, rField_eq_ok_iff, cField_eq_ok_iff, selector_eq_ok_iff,
      List.forall_mem_cons, List.not_mem_nil, Except.ok.injEq, forall_exists_index, and_imp]
    intros
    subst_vars
    simp [encode, Instr.wellFormed, nibbles_extract_high, nibbles_extract_low, *]

/-- A word that decodes is the one word of its command (R61 to R64). -/
theorem encode_of_decode {w : CmdWord} {i : Instr} (h : decode w = .ok i) : encode i = w ∧ i.wellFormed = true := by
  have hfields := encode_of_decodeFields h
  rwa [cmdWord_fields] at hfields

/-! ### The rows of the opcode table (R67) -/

theorem OpRow.selects_iff {row : OpRow} {w : CmdWord} :
    row.selects w = true ↔ w &&& row.mask = row.value ∧ (row.mnemonic = "LUTRD" → faOf w ≠ 7) := by
  simp [OpRow.selects, imp_iff_not_or]

/-- A mask that covers the opcode byte keeps the opcode. -/
theorem opOf_and_of_mask {w m v : CmdWord} (hm : opOf m = 0xFF) (h : w &&& m = v) : opOf w = opOf v := by
  have hand : opOf (w &&& m) = opOf w &&& opOf m := BitVec.extractLsb'_and
  rw [← h, hand, hm]
  exact BitVec.and_allOnes.symm

theorem opOf_mask_of_mem : ∀ row ∈ opcodeTable, opOf row.mask = 0xFF := by decide

theorem OpRow.opOf_eq_of_selects {row : OpRow} (hrow : row ∈ opcodeTable) {w : CmdWord} (h : row.selects w = true) :
    opOf w = opOf row.value :=
  opOf_and_of_mask (opOf_mask_of_mem row hrow) (OpRow.selects_iff.mp h).1

/-- No two rows share an opcode. -/
theorem OpRow.eq_of_opOf_value_eq {p q : OpRow} (hp : p ∈ opcodeTable) (hq : q ∈ opcodeTable)
    (h : opOf p.value = opOf q.value) : p = q :=
  have hnodup : (opcodeTable.map fun row => opOf row.value).Nodup := by decide
  List.inj_on_of_nodup_map hnodup hp hq h

/-- Every command's own row selects its word. -/
theorem rowSelects : ∀ i : Instr, RowSelects.Statement i
  | .nop => RowSelects.nop
  | .frompix gd x y => RowSelects.frompix gd x y
  | .pixval gs x y => RowSelects.pixval gs x y
  | .rowbyte gs row => RowSelects.rowbyte gs row
  | .lutrd k i => RowSelects.lutrd k i
  | .gmask gd m => RowSelects.gmask gd m
  | .glyph4 gd g1 g2 g3 g4 => RowSelects.glyph4 gd g1 g2 g3 g4
  | .tallhalf2 gd g1 g2 => RowSelects.tallhalf2 gd g1 g2
  | .widehalf2 gd g1 g2 => RowSelects.widehalf2 gd g1 g2
  | .gmov gd gs => RowSelects.gmov gd gs
  | .gflip gd gs => RowSelects.gflip gd gs
  | .gmirror gd gs => RowSelects.gmirror gd gs
  | .grot180 gd gs => RowSelects.grot180 gd gs
  | .gtransp gd gs => RowSelects.gtransp gd gs
  | .grot270 gd gs => RowSelects.grot270 gd gs
  | .grot90 gd gs => RowSelects.grot90 gd gs
  | .mtop gs => RowSelects.mtop gs
  | .mbot gs => RowSelects.mbot gs
  | .mleft gs => RowSelects.mleft gs
  | .mright gs => RowSelects.mright gs
  | .gwidth gs => RowSelects.gwidth gs
  | .gheight gs => RowSelects.gheight gs
  | .gmerge gd ga gb gm => RowSelects.gmerge gd ga gb gm
  | .gshl gd gs n => RowSelects.gshl gd gs n
  | .gshr gd gs n => RowSelects.gshr gd gs n
  | .gshu gd gs n => RowSelects.gshu gd gs n
  | .gshd gd gs n => RowSelects.gshd gd gs n
  | .gcyl gd gs n => RowSelects.gcyl gd gs n
  | .gcyr gd gs n => RowSelects.gcyr gd gs n
  | .gcyu gd gs n => RowSelects.gcyu gd gs n
  | .gcyd gd gs n => RowSelects.gcyd gd gs n
  | .rnorm rd rs => RowSelects.rnorm rd rs
  | .rtoabs rd rs => RowSelects.rtoabs rd rs
  | .rtoreg rd rs => RowSelects.rtoreg rd rs
  | .rclip rd rs rb => RowSelects.rclip rd rs rb
  | .caddr cs rr => RowSelects.caddr cs rr
  | .cldg gd cs rr => RowSelects.cldg gd cs rr
  | .cstg gs cs rr => RowSelects.cstg gs cs rr
  | .cat gd cs rr => RowSelects.cat gd cs rr
  | .cput gs cs rr => RowSelects.cput gs cs rr
  | .cisnull cs => RowSelects.cisnull cs
  | .ccrop cd cs rr => RowSelects.ccrop cd cs rr
  | .cfill cs gs => RowSelects.cfill cs gs
  | .cplot cs rr => RowSelects.cplot cs rr
  | .cline cs rr => RowSelects.cline cs rr

/-- A word that decodes is selected by its command's row. -/
theorem exists_row_selects_of_decode {w : CmdWord} {i : Instr} (h : decode w = .ok i) :
    ∃ row ∈ opcodeTable, row.mnemonic = i.mnemonic ∧ row.selects w = true := by
  obtain ⟨rfl, hwf⟩ := encode_of_decode h
  exact rowSelects i hwf

/-- Only the selector of LUTRD can make a term ill-formed. -/
theorem eq_lutrd_of_not_wellFormed {i : Instr} (h : ¬i.wellFormed = true) : ∃ k n, i = .lutrd k n := by
  cases i with
  | lutrd k n => exact ⟨k, n, rfl⟩
  | _ => exact absurd rfl h

theorem exists_row_opOf_encode (i : Instr) : ∃ row ∈ opcodeTable, opOf (encode i) = opOf row.value := by
  by_cases hwf : i.wellFormed = true
  · obtain ⟨row, hrow, -, hsel⟩ := rowSelects i hwf
    exact ⟨row, hrow, OpRow.opOf_eq_of_selects hrow hsel⟩
  · obtain ⟨k, n, rfl⟩ := eq_lutrd_of_not_wellFormed hwf
    exact ⟨⟨"LUTRD", 0xFF8FFF00, 0x04000000⟩, by decide, opOf_cmdWord ..⟩

theorem decodes_iff {w : CmdWord} : Machine.decodes w = true ↔ ∃ i, decode w = .ok i := by
  unfold Machine.decodes
  cases decode w <;> simp

/-- The value of each row, all its fields 0, is a word of its command. -/
theorem exists_encode_eq_value {row : OpRow} (hrow : row ∈ opcodeTable) : ∃ i, encode i = row.value := by
  have hdecodes : ∀ row ∈ opcodeTable, Machine.decodes row.value = true := by decide
  obtain ⟨i, hi⟩ := decodes_iff.mp (hdecodes row hrow)
  exact ⟨i, (encode_of_decode hi).1⟩

/-- The opcodes that R68 reserves. -/
abbrev ReservedOpcode (n : Nat) : Prop :=
  (0x09 ≤ n ∧ n ≤ 0x0F) ∨ (0x17 ≤ n ∧ n ≤ 0x1F) ∨ (0x26 ≤ n ∧ n ≤ 0x2F) ∨ (0x31 ≤ n ∧ n ≤ 0x3F) ∨
  (0x48 ≤ n ∧ n ≤ 0x4F) ∨ (0x54 ≤ n ∧ n ≤ 0x5F) ∨ (0x6A ≤ n ∧ n ≤ 0xFF)

theorem opcodeTable_opcodes : opcodeTable.map (fun row => (opOf row.value).toNat) =
    [0x00, 0x01, 0x02, 0x03, 0x04, 0x05, 0x06, 0x07, 0x08, 0x10, 0x11, 0x12, 0x13, 0x14, 0x15, 0x16,
     0x20, 0x21, 0x22, 0x23, 0x24, 0x25, 0x30, 0x40, 0x41, 0x42, 0x43, 0x44, 0x45, 0x46, 0x47,
     0x50, 0x51, 0x52, 0x53, 0x60, 0x61, 0x62, 0x63, 0x64, 0x65, 0x66, 0x67, 0x68, 0x69] := by decide

/-- The reserved opcodes are those below 256 that no row has. -/
theorem reservedOpcode_iff_not_mem {n : Nat} (hn : n < 256) :
    ReservedOpcode n ↔ n ∉ opcodeTable.map fun row => (opOf row.value).toNat := by
  rw [opcodeTable_opcodes]
  simp only [List.mem_cons, List.not_mem_nil, or_false]
  omega

/-- An opcode is reserved when no command, well-formed or not, has it. -/
theorem reservedOpcode_iff_no_encode {n : Nat} (hn : n < 256) :
    ReservedOpcode n ↔ ¬∃ i : Instr, (opOf (encode i)).toNat = n := by
  rw [reservedOpcode_iff_not_mem hn, not_iff_not, List.mem_map]
  constructor
  · rintro ⟨row, hrow, hop⟩
    obtain ⟨i, hi⟩ := exists_encode_eq_value hrow
    exact ⟨i, by rw [hi, hop]⟩
  · rintro ⟨i, hi⟩
    obtain ⟨row, hrow, hop⟩ := exists_row_opOf_encode i
    exact ⟨row, hrow, by rw [← hop, hi]⟩

/-! ### Words that do not decode -/

theorem decode_ne_ok_of_reservedOpcode {w : CmdWord} (h : ReservedOpcode (opOf w).toNat) (i : Instr) :
    decode w ≠ .ok i := by
  intro hdecode
  obtain ⟨rfl, -⟩ := encode_of_decode hdecode
  exact (reservedOpcode_iff_no_encode (opOf (encode i)).isLt).mp h ⟨i, rfl⟩

/-- A word with a row's opcode decodes only when the row's mask selects it: the unused fields and the bits that must be
0 in a register field are 0 (R67, R68). -/
theorem decode_ne_ok_of_masked_ne {w : CmdWord} {row : OpRow} (hrow : row ∈ opcodeTable) (hop : opOf w = opOf row.value)
    (hne : w &&& row.mask ≠ row.value) (i : Instr) : decode w ≠ .ok i := by
  intro hdecode
  obtain ⟨own, hown, -, hsel⟩ := exists_row_selects_of_decode hdecode
  have hsame : own = row := OpRow.eq_of_opOf_value_eq hown hrow ((OpRow.opOf_eq_of_selects hown hsel).symm.trans hop)
  subst hsame
  exact hne (OpRow.selects_iff.mp hsel).1

/-- LUTRD's row lets selector 7 through its mask; the exception of R67 is what refuses it (R70). -/
theorem decode_ne_ok_of_lutrd_seven {w : CmdWord} (hop : opOf w = 0x04) (hfa : faOf w = 7) (i : Instr) :
    decode w ≠ .ok i := by
  intro hdecode
  have hlutrd : ∀ row ∈ opcodeTable, opOf row.value = 0x04 → row.mnemonic = "LUTRD" := by decide
  obtain ⟨row, hrow, -, hsel⟩ := exists_row_selects_of_decode hdecode
  have hname := hlutrd row hrow ((OpRow.opOf_eq_of_selects hrow hsel).symm.trans hop)
  exact (OpRow.selects_iff.mp hsel).2 hname hfa

end Sys2Proof

namespace Sys2Proof.Machine

/-! ### `Cmd` in a block that has not faulted (R66) -/

theorem perform_cmd_of_decode {s : State} (hf : s.fault = false) {w : CmdWord} {i : Instr} (h : decode w = .ok i) :
    perform (.cmd w) s = exec i s := by
  simp [perform, runCmd, hf, h]

theorem perform_cmd_of_not_decode {s : State} (hf : s.fault = false) {w : CmdWord} (h : ∀ i, decode w ≠ .ok i) :
    perform (.cmd w) s = .next (s.raise .illegalCmd .cmd w) := by
  cases hdecode : decode w with
  | ok i => exact absurd hdecode (h i)
  | error e => simp [perform, runCmd, hf, hdecode]

theorem exec_nop (s : State) : exec .nop s = .next s := rfl

theorem exec_lutrd_of_reserved {k : Nibble} (hk : ¬k.toNat < 7) (n : BitVec 8) (s : State) :
    exec (.lutrd k n) s = .next (s.raise .illegalCmd .cmd (encode (.lutrd k n))) := by
  rw [exec, execLutrd, require_neg hk, complete_error]

end Sys2Proof.Machine

namespace Sys2Proof.Proofs
open Sys2Proof.Machine

/-- Settles O5: a word that decodes is selected by the row of its opcode, and no row has a reserved opcode. -/
theorem reservedEncodingsRaiseIllegalCmd : Obligations.ReservedEncodingsRaiseIllegalCmd := by
  refine ⟨fun n hn => reservedOpcode_iff_no_encode hn, ?reserved, ?masked, ?nop, ?ones⟩
  case reserved =>
    intro s w hf hop
    exact perform_cmd_of_not_decode hf (decode_ne_ok_of_reservedOpcode hop)
  case masked =>
    intro s w hf row hrow hop hne
    have hopcode : opOf w = opOf row.value := opOf_and_of_mask (by decide) hop
    exact perform_cmd_of_not_decode hf (decode_ne_ok_of_masked_ne hrow hopcode hne)
  case nop =>
    intro s hf
    have hdecode : decode 0 = .ok .nop := by decide
    rw [perform_cmd_of_decode hf hdecode, exec_nop]
  case ones =>
    intro s hf
    have hop : ReservedOpcode (opOf 0xFFFFFFFF).toNat := by decide
    exact perform_cmd_of_not_decode hf (decode_ne_ok_of_reservedOpcode hop)

end Sys2Proof.Proofs
end

section
/-! PROOFS. The swap networks of the transforms (spec/42_glyph_transform.md R110 to R113) as maps of bits and of pixels,
and the obligation about the eighth transform (spec/30_encoding.md R70). -/

namespace Sys2Proof.Machine

/-- Bit `i` of the result of `f` is bit `src i` of its argument. -/
def MovesBits (f : Word → Word) (src : Nat → Nat) : Prop :=
  ∀ g, ∀ i < 64, (f g).getLsbD i = g.getLsbD (src i)

/-- A network of three stages moves the bits as its stages do, the last stage's source first. -/
theorem movesBits_of_stages {f f₁ f₂ f₃ : Word → Word} {src src₁ src₂ src₃ : Nat → Nat}
    (hf : ∀ g, f g = f₃ (f₂ (f₁ g))) (h₁ : MovesBits f₁ src₁) (h₂ : MovesBits f₂ src₂) (h₃ : MovesBits f₃ src₃)
    (hsrc : ∀ i < 64, src₃ i < 64 ∧ src₂ (src₃ i) < 64 ∧ src₁ (src₂ (src₃ i)) = src i) : MovesBits f src := by
  intro g i hi
  obtain ⟨hlt₃, hlt₂, heq⟩ := hsrc i hi
  rw [hf, h₃ _ i hi, h₂ _ _ hlt₃, h₁ _ _ hlt₂, heq]

/-- A map that moves bits moves pixels: its sources, written as pixels (R9). -/
theorem MovesBits.pixels {f : Word → Word} {src : Nat → Nat} (hf : MovesBits f src) {px' py' : Nat → Nat → Nat}
    (hsrc : ∀ x < 8, ∀ y < 8, src (bitOf x y) = bitOf (px' x y) (py' x y)) (g : Word) :
    Pixels (f g) fun x y => px g (px' x y) (py' x y) := by
  intro x y hx hy
  have hlt : bitOf x y < 64 := by simp only [bitOf]; omega
  simp only [px]
  rw [hf g _ hlt, hsrc x hx y hy]

/-- One stage of a swap network (R110 to R112): the bits that `keep` selects stay, those that `up` selects move up by `d`,
and the positions that `down` selects take the bit `d` above them. -/
def swapStage (keep up down : Word) (d : Nat) (g : Word) : Word :=
  (g &&& keep) ||| ((g &&& up) <<< d) ||| ((g >>> d) &&& down)

/-- Bit `i` of a stage's result comes from bit `j` alone: exactly one of the three parts selects it. -/
abbrev StageReads (keep up down : Word) (d i j : Nat) : Prop :=
  let kept := keep.getLsbD i
  let raised := !decide (i < d) && up.getLsbD (i - d)
  let lowered := down.getLsbD i
  (kept, raised, lowered, j) = (true, false, false, i) ∨ (kept, raised, lowered, j) = (false, true, false, i - d) ∨
    (kept, raised, lowered, j) = (false, false, true, i + d)

theorem movesBits_swapStage {keep up down : Word} {d : Nat} {src : Nat → Nat}
    (h : ∀ i < 64, StageReads keep up down d i (src i)) : MovesBits (swapStage keep up down d) src := by
  intro g i hi
  have hbit : (swapStage keep up down d g).getLsbD i = (g.getLsbD i && keep.getLsbD i ||
      g.getLsbD (i - d) && (!decide (i < d) && up.getLsbD (i - d)) || g.getLsbD (i + d) && down.getLsbD i) := by
    simp only [swapStage, BitVec.getLsbD_or, BitVec.getLsbD_and, BitVec.getLsbD_shiftLeft, BitVec.getLsbD_ushiftRight, hi,
      decide_true, Bool.true_and, Nat.add_comm d, Bool.and_left_comm]
  rw [hbit]
  obtain hread | hread | hread := h i hi <;>
    · simp only [Prod.mk.injEq] at hread
      obtain ⟨hkept, hraised, hlowered, hsrc⟩ := hread
      simp [hkept, hraised, hlowered, hsrc]

/-- The first stage of R110 needs no mask: the shifts clear the other half. -/
theorem glyphFlip_eq (g : Word) :
    glyphFlip g = swapStage 0 0x00FF00FF00FF00FF 0x00FF00FF00FF00FF 8 (swapStage 0 0x0000FFFF0000FFFF 0x0000FFFF0000FFFF 16
      (swapStage 0 0xFFFFFFFFFFFFFFFF 0x00000000FFFFFFFF 32 g)) := by
  have hones (v : Word) : v &&& 18446744073709551615#64 = v := BitVec.and_allOnes
  have hlow : g >>> 32 &&& 4294967295#64 = g >>> 32 := by
    simpa [hones] using (BitVec.ushiftRight_and_distrib g 18446744073709551615#64 32).symm
  simp [glyphFlip, swapStage, BitVec.ushiftRight_and_distrib, BitVec.or_comm, hones, hlow]

theorem glyphMirror_eq (g : Word) :
    glyphMirror g = swapStage 0 0x5555555555555555 0x5555555555555555 1 (swapStage 0 0x3333333333333333 0x3333333333333333 2
      (swapStage 0 0x0F0F0F0F0F0F0F0F 0x0F0F0F0F0F0F0F0F 4 g)) := by
  simp [glyphMirror, swapStage, BitVec.ushiftRight_and_distrib, BitVec.or_comm]

theorem glyphTranspose_eq (g : Word) :
    glyphTranspose g = swapStage 0xF0F0F0F00F0F0F0F 0x00000000F0F0F0F0 0x00000000F0F0F0F0 28
      (swapStage 0xCCCC3333CCCC3333 0x0000CCCC0000CCCC 0x0000CCCC0000CCCC 14
        (swapStage 0xAA55AA55AA55AA55 0x00AA00AA00AA00AA 0x00AA00AA00AA00AA 7 g)) :=
  rfl

/-- Flip complements the three bits of the index that number the row. -/
theorem movesBits_glyphFlip : MovesBits glyphFlip fun i => i ^^^ 56 :=
  movesBits_of_stages glyphFlip_eq (src₁ := (· ^^^ 32)) (src₂ := (· ^^^ 16)) (src₃ := (· ^^^ 8))
    (movesBits_swapStage (by decide)) (movesBits_swapStage (by decide)) (movesBits_swapStage (by decide)) (by decide)

/-- Mirror complements the three bits of the index that number the column. -/
theorem movesBits_glyphMirror : MovesBits glyphMirror fun i => i ^^^ 7 :=
  movesBits_of_stages glyphMirror_eq (src₁ := (· ^^^ 4)) (src₂ := (· ^^^ 2)) (src₃ := (· ^^^ 1))
    (movesBits_swapStage (by decide)) (movesBits_swapStage (by decide)) (movesBits_swapStage (by decide)) (by decide)

/-- Transpose exchanges the row and the column of the index, one bit of each per stage. -/
theorem movesBits_glyphTranspose : MovesBits glyphTranspose fun i => 8 * (i % 8) + i / 8 :=
  movesBits_of_stages glyphTranspose_eq (src₁ := fun i => i + i % 2 * 7 - i / 8 % 2 * 7)
    (src₂ := fun i => i + i / 2 % 2 * 14 - i / 16 % 2 * 14) (src₃ := fun i => i + i / 4 % 2 * 28 - i / 32 % 2 * 28)
    (movesBits_swapStage (by decide)) (movesBits_swapStage (by decide)) (movesBits_swapStage (by decide)) (by decide)

theorem pixels_glyphFlip (g : Word) : Pixels (glyphFlip g) fun x y => px g x (7 - y) :=
  movesBits_glyphFlip.pixels (by decide) g

theorem pixels_glyphMirror (g : Word) : Pixels (glyphMirror g) fun x y => px g (7 - x) y :=
  movesBits_glyphMirror.pixels (by decide) g

theorem pixels_glyphTranspose (g : Word) : Pixels (glyphTranspose g) fun x y => px g y x :=
  movesBits_glyphTranspose.pixels (by decide) g

/-- All three stages: flip and mirror together turn by 180 degrees, and the transpose then reflects (R70, R113). -/
theorem pixels_xf_seven (g : Word) : Pixels (xf 7 g) fun x y => px g (7 - y) (7 - x) := by
  intro x y hx hy
  calc px (xf 7 g) x y
      = px (glyphTranspose (glyphMirror (glyphFlip g))) x y := rfl
    _ = px (glyphMirror (glyphFlip g)) y x := pixels_glyphTranspose _ x y hx hy
    _ = px (glyphFlip g) (7 - y) x := pixels_glyphMirror _ y x hy hx
    _ = px g (7 - y) (7 - x) := pixels_glyphFlip g (7 - y) x (by omega) hx

end Sys2Proof.Machine

namespace Sys2Proof.Proofs
open Sys2Proof.Machine

/-- Settles O6: neither kind of word decodes, the term fails LUTRD's own test, and the pixels follow the three stages. -/
theorem theEighthTransformIsReserved : Obligations.TheEighthTransformIsReserved := by
  refine ⟨?words, fun n s => exec_lutrd_of_reserved (by decide) n s, pixels_xf_seven⟩
  case words =>
    rintro s w hf (hop | ⟨hop, hfa⟩)
    · have hreserved : ReservedOpcode (opOf w).toNat := by rw [hop]; decide
      exact perform_cmd_of_not_decode hf (decode_ne_ok_of_reservedOpcode hreserved)
    · exact perform_cmd_of_not_decode hf (decode_ne_ok_of_lutrd_seven hop hfa)

end Sys2Proof.Proofs
end

section
/-! PROOFS. The commands of the glyph pixel table (spec/40_glyph_pixel_lut.md R80 to R89): the word of every well-formed
command decodes to it, what each of FROMPIX, PIXVAL, ROWBYTE and LUTRD does within range and beyond it, and the
obligations of the family. -/

namespace Sys2Proof

/-! ### From a command to its word and back (R64, R66) -/

theorem decode_cmdWord (op : BitVec 8) (a b c d e f : Nibble) :
    decode (cmdWord op a b c d e f) = decodeFields op a b c d e f := by
  simp only [decode, opOf_cmdWord, faOf_cmdWord, fbOf_cmdWord, fcOf_cmdWord, fdOf_cmdWord, feOf_cmdWord, ffOf_cmdWord]

/-- The two fields that hold a LUTRD bit index, put together again. -/
theorem append_extract_nibbles (n : BitVec 8) : n.extractLsb' 4 4 ++ n.extractLsb' 0 4 = n := by
  revert n; decide

/-- Row by row: the row of the command's opcode accepts the fields the encoder writes. -/
theorem decode_encode_of_wellFormed {i : Instr} (h : i.wellFormed = true) : decode (encode i) = .ok i := by
  cases i with
  | lutrd k n =>
    have hk : k.toNat < 7 := by simpa [Instr.wellFormed] using h
    simp [encode, decode_cmdWord, decodeFields, unused, selector, hk, append_extract_nibbles]
  | _ => simp [encode, decode_cmdWord, decodeFields, unused]

end Sys2Proof

namespace Sys2Proof.Machine

theorem hasWord_encode {i : Instr} (h : i.wellFormed = true) : HasWord i (encode i) :=
  ⟨rfl, decode_encode_of_wellFormed h⟩

/-! ### Pixels and bits (R80 to R84) -/

theorem bitOf_lt (x y : Nat) : bitOf x y < 64 := by
  unfold bitOf; omega

/-- Distinct pixels have distinct bits. -/
theorem bitOf_eq_bitOf_iff {x y x' y' : Nat} (hx : x < 8) (hy : y < 8) (hx' : x' < 8) (hy' : y' < 8) :
    bitOf x y = bitOf x' y' ↔ x' = x ∧ y' = y := by
  unfold bitOf; omega

theorem toNat_fromPixel (x y : Nat) : (fromPixel x y).toNat = 2 ^ bitOf x y :=
  BitVec.toNat_twoPow_of_lt (bitOf_lt x y)

theorem pixels_fromPixel {x y : Nat} (hx : x < 8) (hy : y < 8) :
    Pixels (fromPixel x y) fun x' y' => decide (x' = x ∧ y' = y) := by
  intro x' y' hx' hy'
  simp only [px, getLsbD_fromPixel, bitOf_eq_bitOf_iff hx hy hx' hy']

/-- `PixelValue` as the integer that RES takes. -/
theorem pixelValue_eq_ite (g : Word) (x y : Nat) : (pixelValue g x y : Int) = if px g x y then 1 else 0 := by
  cases hpx : px g x y <;> simp [pixelValue, hpx]

/-- Bit 7 of a row's byte is the row's leftmost pixel (R83, by R9). -/
theorem getLsbD_rowByte (g : Word) {c row : Nat} (hc : c < 8) (hrow : row < 8) :
    (rowByte g row).getLsbD (7 - c) = px g c row := by
  have hbit : 56 - 8 * row + (7 - c) = bitOf c row := by unfold bitOf; omega
  have hlt : 7 - c < 8 := by omega
  rw [rowByte, BitVec.getLsbD_extractLsb', hbit, decide_eq_true hlt, Bool.true_and, px]

/-- Every entry of the table is the index of a bit of a glyph. -/
theorem perm_le (k : Nat) {i : Nat} (hi : i ≤ 63) : perm k i ≤ 63 := by
  simp only [perm]
  split <;> omega

/-! ### The commands, within range and beyond it (R86 to R89) -/

theorem exec_frompix_of_inRange (gd : GReg) {x y : Nibble} (hx : InRange x) (hy : InRange y) (s : State) :
    exec (.frompix gd x y) s = .next (s.setG gd (fromPixel x.toNat y.toNat)) := by
  rw [exec, execFrompix, require_pos ⟨hx, hy⟩, complete_ok]

theorem exec_pixval_of_inRange (gs : GReg) {x y : Nibble} (hx : InRange x) (hy : InRange y) (s : State) :
    exec (.pixval gs x y) s = .next (s.setRes (pixelValue (s.G gs) x.toNat y.toNat)) := by
  rw [exec, execPixval, require_pos ⟨hx, hy⟩, complete_ok]

theorem exec_rowbyte_of_inRange (gs : GReg) {row : Nibble} (hrow : InRange row) (s : State) :
    exec (.rowbyte gs row) s = .next (s.setRes (rowByte (s.G gs) row.toNat).toNat) := by
  rw [exec, execRowbyte, require_pos hrow, complete_ok]

theorem exec_lutrd_of_inLut {k : Nibble} (hk : k.toNat < 7) {i : BitVec 8} (hi : InLut i) (s : State) :
    exec (.lutrd k i) s = .next (s.setRes (perm k.toNat i.toNat)) := by
  rw [exec, execLutrd, require_pos hk, require_pos hi, complete_ok]

theorem frompix_faults_of_not_inRange (gd : GReg) {x y : Nibble} (h : ¬(InRange x ∧ InRange y)) (s : State) :
    Faults (.frompix gd x y) s .operandRange := by
  rw [Faults, exec, execFrompix, require_neg h, complete_error]

theorem pixval_faults_of_not_inRange (gs : GReg) {x y : Nibble} (h : ¬(InRange x ∧ InRange y)) (s : State) :
    Faults (.pixval gs x y) s .operandRange := by
  rw [Faults, exec, execPixval, require_neg h, complete_error]

theorem rowbyte_faults_of_not_inRange (gs : GReg) {row : Nibble} (h : ¬InRange row) (s : State) :
    Faults (.rowbyte gs row) s .operandRange := by
  rw [Faults, exec, execRowbyte, require_neg h, complete_error]

/-- The index is tested only when the selector has passed its test. -/
theorem lutrd_faults_of_not_inLut {k : Nibble} (hk : k.toNat < 7) {i : BitVec 8} (hi : ¬InLut i) (s : State) :
    Faults (.lutrd k i) s .operandRange := by
  rw [Faults, exec, execLutrd, require_pos hk, require_neg hi, complete_error]

end Sys2Proof.Machine

namespace Sys2Proof.Proofs
open Sys2Proof.Machine

/-- Settles O28: within range the glyph is `FromPixel`, whose one bit is that of the named pixel alone. -/
theorem frompixSetsExactlyOnePixel : Obligations.FrompixSetsExactlyOnePixel := by
  intro gd x y s
  refine ⟨hasWord_encode rfl, ?pixel, ?outOfRange⟩
  case pixel =>
    intro hx hy
    exact ⟨fromPixel x.toNat y.toNat, exec_frompix_of_inRange gd hx hy s, toNat_fromPixel _ _,
      pixels_fromPixel (by omega) (by omega)⟩
  case outOfRange =>
    intro h
    exact frompix_faults_of_not_inRange gd (by omega) s

/-- Settles O29: each command within range by what it writes to RES, and beyond it by its one test. -/
theorem pixvalAndRowbyteReadTheGlyph : Obligations.PixvalAndRowbyteReadTheGlyph := by
  intro gs x y s
  refine ⟨hasWord_encode rfl, ?pixel, ?pixelOutOfRange, hasWord_encode rfl, ?row, ?rowOutOfRange⟩
  case pixel =>
    intro hx hy
    rw [exec_pixval_of_inRange gs hx hy, pixelValue_eq_ite]
  case pixelOutOfRange =>
    intro h
    exact pixval_faults_of_not_inRange gs (by omega) s
  case row =>
    intro hy
    exact ⟨rowByte (s.G gs) y.toNat, exec_rowbyte_of_inRange gs hy s,
      fun c hc => getLsbD_rowByte (s.G gs) hc (by omega)⟩
  case rowOutOfRange =>
    intro hy
    exact rowbyte_faults_of_not_inRange gs hy.not_ge s

/-- Settles O30: the selector's test, then the index's, then the entry, in the order of R89. -/
theorem lutrdReturnsTheTableEntry : Obligations.LutrdReturnsTheTableEntry := by
  intro k i s
  refine ⟨rfl, ?decodes, ?selector, ?index, ?entry⟩
  case decodes =>
    intro hk
    exact decode_encode_of_wellFormed (decide_eq_true hk)
  case selector =>
    intro hk
    exact exec_lutrd_of_reserved hk.not_gt i s
  case index =>
    intro hk hi
    exact lutrd_faults_of_not_inLut hk hi.not_ge s
  case entry =>
    intro hk hi
    exact ⟨exec_lutrd_of_inLut hk hi s, perm_le k.toNat hi⟩

end Sys2Proof.Proofs
end

section
/-! PROOFS. The seven commands of the transforms (spec/42_glyph_transform.md section 2): their common form, the pixel
maps of the rotations, and the obligation about the commands. -/

namespace Sys2Proof.Machine

/-! ### The common form of the commands (R114 to R120) -/

/-- The command whose stage mask is `k` (R113). -/
def transformCommand (gd gs : GReg) : Fin 7 → Instr
  | 0 => .gmov gd gs
  | 1 => .gflip gd gs
  | 2 => .gmirror gd gs
  | 3 => .grot180 gd gs
  | 4 => .gtransp gd gs
  | 5 => .grot270 gd gs
  | 6 => .grot90 gd gs

theorem hasWord_transformCommand (gd gs : GReg) (k : Fin 7) :
    HasWord (transformCommand gd gs k) (cmdWord (0x10 + BitVec.ofNat 8 k.val) (nib gd) (nib gs) 0 0 0 0) :=
  match k with
  | 0 | 1 | 2 | 3 | 4 | 5 | 6 => hasWord_encode rfl

theorem exec_transformCommand (gd gs : GReg) (k : Fin 7) (s : State) :
    exec (transformCommand gd gs k) s = .next (s.setG gd (xf (BitVec.ofNat 3 k.val) (s.G gs))) :=
  match k with
  | 0 | 1 | 2 | 3 | 4 | 5 | 6 => rfl

/-! ### The pixel maps of the rotations (R118 to R120), each composed of its two stages -/

theorem pixels_rotate180 (g : Word) : Pixels (xf 3 g) fun x y => px g (7 - x) (7 - y) := by
  intro x y hx hy
  calc px (xf 3 g) x y
      = px (glyphMirror (glyphFlip g)) x y := rfl
    _ = px (glyphFlip g) (7 - x) y := pixels_glyphMirror _ x y hx hy
    _ = px g (7 - x) (7 - y) := pixels_glyphFlip g (7 - x) y (by omega) hy

theorem pixels_rotate270 (g : Word) : Pixels (xf 5 g) fun x y => px g y (7 - x) := by
  intro x y hx hy
  calc px (xf 5 g) x y
      = px (glyphTranspose (glyphFlip g)) x y := rfl
    _ = px (glyphFlip g) y x := pixels_glyphTranspose _ x y hx hy
    _ = px g y (7 - x) := pixels_glyphFlip g y x hy hx

theorem pixels_rotate90 (g : Word) : Pixels (xf 6 g) fun x y => px g (7 - y) x := by
  intro x y hx hy
  calc px (xf 6 g) x y
      = px (glyphTranspose (glyphMirror g)) x y := rfl
    _ = px (glyphMirror g) y x := pixels_glyphTranspose _ x y hx hy
    _ = px g (7 - y) x := pixels_glyphMirror g y x hy hx

end Sys2Proof.Machine

namespace Sys2Proof.Proofs
open Sys2Proof.Machine

/-- Settles O32: the words and the effects are the common form at each stage mask, and what is written has the pixels of
the stages that the mask applies. -/
theorem transformCommandsMovePixels : Obligations.TransformCommandsMovePixels := by
  intro gd gs s g
  have hword := hasWord_transformCommand gd gs
  have hexec (k : Fin 7) := exec_transformCommand gd gs k s
  exact ⟨hword 0, hword 1, hword 2, hword 3, hword 4, hword 5, hword 6,
    hexec 0,
    ⟨_, hexec 1, pixels_glyphFlip g⟩,
    ⟨_, hexec 2, pixels_glyphMirror g⟩,
    ⟨_, hexec 3, pixels_rotate180 g⟩,
    ⟨_, hexec 4, pixels_glyphTranspose g⟩,
    ⟨_, hexec 5, pixels_rotate270 g⟩,
    ⟨_, hexec 6, pixels_rotate90 g⟩⟩

end Sys2Proof.Proofs
end

section
/-! PROOFS. The measures of a glyph (spec/43_glyph_measure.md): what counting zero bits finds, the margins as counts of
empty rows and columns, the extent that opposite margins leave, and the obligations of the family. -/

namespace Sys2Proof.Machine

/-! ### The first position that holds -/

/-- `n` is the number of positions, of the first `size`, that come before the first at which `p` holds: `size` where none
does. -/
structure IsLeadingCount (p : Nat → Prop) (size n : Nat) : Prop where
  le : n ≤ size
  empty : ∀ i < n, ¬p i
  next : n < size → p n

namespace IsLeadingCount

variable {p q : Nat → Prop} {size n m : Nat}

theorem nil : IsLeadingCount p 0 0 :=
  ⟨le_rfl, fun _ hi => absurd hi (Nat.not_lt_zero _), fun hn => absurd hn (lt_irrefl 0)⟩

theorem zero (h : p 0) : IsLeadingCount p size 0 :=
  ⟨size.zero_le, fun _ hi => absurd hi (Nat.not_lt_zero _), fun _ => h⟩

theorem succ (h0 : ¬p 0) (h : IsLeadingCount (fun i => p (i + 1)) size n) : IsLeadingCount p (size + 1) (1 + n) := by
  rw [Nat.add_comm 1 n]
  refine ⟨Nat.succ_le_succ h.le, ?_, fun hn => h.next (Nat.lt_of_succ_lt_succ hn)⟩
  intro i hi
  cases i with
  | zero => exact h0
  | succ i => exact h.empty i (Nat.lt_of_succ_lt_succ hi)

theorem congr (h : IsLeadingCount p size n) (hpq : ∀ i < size, p i ↔ q i) : IsLeadingCount q size n :=
  ⟨h.le, fun i hi hq => h.empty i hi ((hpq i (hi.trans_le h.le)).2 hq), fun hn => (hpq n hn).1 (h.next hn)⟩

/-- Counting whole groups of eight: a group that holds anywhere ends the count (R130). -/
theorem div_eight (h : IsLeadingCount p (8 * size) n) :
    IsLeadingCount (fun k => ∃ j < 8, p (8 * k + j)) size (n / 8) := by
  refine ⟨?le, ?empty, ?next⟩
  case le =>
    have hle := h.le
    omega
  case empty =>
    rintro k hk ⟨j, hj, hp⟩
    exact h.empty (8 * k + j) (by omega) hp
  case next =>
    intro hn
    have hp : p n := h.next (by omega)
    exact ⟨n % 8, Nat.mod_lt n (by decide), by rwa [Nat.div_add_mod]⟩

/-- Counted from both ends of eight positions, of which one holds: the counts leave the range from the first that holds to
the last (R131, R139). -/
theorem extent (first : IsLeadingCount p 8 n) (last : IsLeadingCount (fun i => p (7 - i)) 8 m) (hp : ∃ i < 8, p i) :
    n + m ≤ 7 ∧ p n ∧ p (7 - m) ∧ ∀ i < 8, p i → n ≤ i ∧ i ≤ 7 - m := by
  have hrange : ∀ i < 8, p i → n ≤ i ∧ i + m ≤ 7 := by
    intro i hi hpi
    have hfirst : ¬i < n := fun hin => first.empty i hin hpi
    have hlast : ¬7 - i < m := fun him => last.empty (7 - i) him (by rwa [Nat.sub_sub_self (by omega)])
    omega
  obtain ⟨i, hi, hpi⟩ := hp
  obtain ⟨hni, him⟩ := hrange i hi hpi
  refine ⟨by omega, first.next (by omega), last.next (by omega), ?_⟩
  intro j hj hpj
  obtain ⟨hnj, hjm⟩ := hrange j hj hpj
  exact ⟨hnj, by omega⟩

end IsLeadingCount

/-! ### Counting zero bits (R11) -/

theorem isLeadingCount_leadingZeros {w : Nat} (v : BitVec w) (n : Nat) :
    IsLeadingCount (fun i => v.getLsbD (n - 1 - i) = true) n (leadingZeros v n) := by
  induction n with
  | zero => exact .nil
  | succ n ih =>
    rw [leadingZeros]
    split
    case isTrue hbit => exact .zero hbit
    case isFalse hbit =>
      refine .succ hbit (ih.congr fun i _ => ?_)
      rw [Nat.add_sub_cancel, Nat.sub_sub, Nat.add_comm 1 i]

theorem isLeadingCount_trailingZeros {w : Nat} (v : BitVec w) (fuel i : Nat) :
    IsLeadingCount (fun j => v.getLsbD (i + j) = true) fuel (trailingZeros v fuel i) := by
  induction fuel generalizing i with
  | zero => exact .nil
  | succ fuel ih =>
    rw [trailingZeros]
    split
    case isTrue hbit => exact .zero hbit
    case isFalse hbit =>
      refine .succ hbit ((ih (i + 1)).congr fun j _ => ?_)
      rw [Nat.add_right_comm, Nat.add_assoc]

theorem isLeadingCount_clz {w : Nat} (v : BitVec w) :
    IsLeadingCount (fun i => v.getLsbD (w - 1 - i) = true) w (clz v) :=
  isLeadingCount_leadingZeros v w

theorem isLeadingCount_ctz {w : Nat} (v : BitVec w) : IsLeadingCount (fun i => v.getLsbD i = true) w (ctz v) := by
  rw [ctz]
  simpa only [Nat.zero_add] using isLeadingCount_trailingZeros v w 0

/-! ### Rows and columns that hold a pixel -/

/-- Row `y` of the glyph is not empty. -/
def RowSet (g : Word) (y : Nat) : Prop := ∃ x, x < 8 ∧ px g x y = true

/-- Column `x` of the glyph is not empty. -/
def ColSet (g : Word) (x : Nat) : Prop := ∃ y, y < 8 ∧ px g x y = true

theorem px_eq_false_of_not_rowSet {g : Word} {y : Nat} (h : ¬RowSet g y) {x : Nat} (hx : x < 8) : px g x y = false :=
  Bool.eq_false_of_not_eq_true fun hpx => h ⟨x, hx, hpx⟩

theorem px_eq_false_of_not_colSet {g : Word} {x : Nat} (h : ¬ColSet g x) {y : Nat} (hy : y < 8) : px g x y = false :=
  Bool.eq_false_of_not_eq_true fun hpx => h ⟨y, hy, hpx⟩

/-- Bit `i` of a glyph is the pixel in column `7 - i mod 8` of row `7 - i div 8` (R9). -/
theorem exists_px_of_ne_zero {g : Word} (h : g ≠ 0) : ∃ x y, x < 8 ∧ y < 8 ∧ px g x y = true := by
  contrapose! h
  refine BitVec.eq_of_getLsbD_eq fun i hi => ?_
  have hbit : bitOf (7 - i % 8) (7 - i / 8) = i := by unfold bitOf; omega
  have hpx := h (7 - i % 8) (7 - i / 8) (by omega) (by omega)
  rw [px, hbit] at hpx
  simpa using hpx

theorem exists_rowSet_of_ne_zero {g : Word} (h : g ≠ 0) : ∃ y < 8, RowSet g y :=
  let ⟨x, y, hx, hy, hpx⟩ := exists_px_of_ne_zero h
  ⟨y, hy, x, hx, hpx⟩

theorem exists_colSet_of_ne_zero {g : Word} (h : g ≠ 0) : ∃ x < 8, ColSet g x :=
  let ⟨x, y, hx, hy, hpx⟩ := exists_px_of_ne_zero h
  ⟨x, hx, y, hy, hpx⟩

/-- The OR of the row bytes has a bit for each column that is not empty. -/
theorem getLsbD_rowOr_iff (g : Word) {x : Nat} (hx : x < 8) : (rowOr g).getLsbD (7 - x) = true ↔ ColSet g x := by
  simp only [rowOr, BitVec.getLsbD_or, getLsbD_rowByte g hx, Nat.reduceLT, Bool.or_eq_true, ColSet]
  constructor
  · rintro (((((((h | h) | h) | h) | h) | h) | h) | h) <;> exact ⟨_, by decide, h⟩
  · rintro ⟨y, hy, h⟩
    interval_cases y <;> simp only [h, true_or, or_true]

/-! ### The margins count empty lines (R130) -/

theorem isLeadingCount_marginTop (g : Word) : IsLeadingCount (RowSet g) 8 (marginTop g) := by
  refine (isLeadingCount_clz g).div_eight.congr fun y _ => exists_congr fun x => ?_
  have hbit : 64 - 1 - (8 * y + x) = bitOf x y := by unfold bitOf; omega
  rw [hbit, px]

/-- A row read from its right end: bit `j` of the row is column `7 - j`. -/
theorem isLeadingCount_marginBottom (g : Word) : IsLeadingCount (fun y => RowSet g (7 - y)) 8 (marginBottom g) := by
  refine (isLeadingCount_ctz g).div_eight.congr fun y hy => ?_
  have hbit {x : Nat} (hx : x < 8) : bitOf (7 - x) (7 - y) = 8 * y + x := by unfold bitOf; omega
  constructor
  · rintro ⟨j, hj, h⟩
    exact ⟨7 - j, by omega, by rwa [px, hbit hj]⟩
  · rintro ⟨x, hx, h⟩
    refine ⟨7 - x, by omega, ?_⟩
    rwa [← hbit (by omega), Nat.sub_sub_self (by omega)]

theorem isLeadingCount_marginLeft (g : Word) : IsLeadingCount (ColSet g) 8 (marginLeft g) :=
  (isLeadingCount_clz (rowOr g)).congr fun _ hx => getLsbD_rowOr_iff g hx

theorem isLeadingCount_marginRight (g : Word) : IsLeadingCount (fun x => ColSet g (7 - x)) 8 (marginRight g) := by
  refine (isLeadingCount_ctz (rowOr g)).congr fun x hx => ?_
  rw [← getLsbD_rowOr_iff g (by omega), Nat.sub_sub_self (by omega)]

/-- The rows of a non-empty glyph, between its margins (R131, R139). -/
theorem rowExtent_of_ne_zero {g : Word} (h : g ≠ 0) :
    marginTop g + marginBottom g ≤ 7 ∧ RowSet g (marginTop g) ∧ RowSet g (7 - marginBottom g) ∧
      ∀ y < 8, RowSet g y → marginTop g ≤ y ∧ y ≤ 7 - marginBottom g :=
  (isLeadingCount_marginTop g).extent (isLeadingCount_marginBottom g) (exists_rowSet_of_ne_zero h)

/-- The columns of a non-empty glyph, between its margins (R131, R139). -/
theorem colExtent_of_ne_zero {g : Word} (h : g ≠ 0) :
    marginLeft g + marginRight g ≤ 7 ∧ ColSet g (marginLeft g) ∧ ColSet g (7 - marginRight g) ∧
      ∀ x < 8, ColSet g x → marginLeft g ≤ x ∧ x ≤ 7 - marginRight g :=
  (isLeadingCount_marginLeft g).extent (isLeadingCount_marginRight g) (exists_colSet_of_ne_zero h)

theorem glyphWidth_zero : glyphWidth 0 = 0 := if_pos rfl

theorem glyphHeight_zero : glyphHeight 0 = 0 := if_pos rfl

/-- The width is the length of the range of columns between the margins. -/
theorem glyphWidth_of_ne_zero {g : Word} (h : g ≠ 0) : glyphWidth g = 7 - marginRight g - marginLeft g + 1 := by
  obtain ⟨hsum, -⟩ := colExtent_of_ne_zero h
  rw [glyphWidth, if_neg h]
  omega

/-- The height is the length of the range of rows between the margins. -/
theorem glyphHeight_of_ne_zero {g : Word} (h : g ≠ 0) : glyphHeight g = 7 - marginBottom g - marginTop g + 1 := by
  obtain ⟨hsum, -⟩ := rowExtent_of_ne_zero h
  rw [glyphHeight, if_neg h]
  omega

/-! ### The common form of the commands (R132 to R137) -/

/-- The command with the opcode `0x20 + k`. -/
def measureCommand (gs : GReg) : Fin 6 → Instr
  | 0 => .mtop gs
  | 1 => .mbot gs
  | 2 => .mleft gs
  | 3 => .mright gs
  | 4 => .gwidth gs
  | 5 => .gheight gs

/-- What that command measures. -/
def measure (g : Word) : Fin 6 → Nat
  | 0 => marginTop g
  | 1 => marginBottom g
  | 2 => marginLeft g
  | 3 => marginRight g
  | 4 => glyphWidth g
  | 5 => glyphHeight g

theorem hasWord_measureCommand (gs : GReg) (k : Fin 6) :
    HasWord (measureCommand gs k) (cmdWord (0x20 + BitVec.ofNat 8 k.val) (nib gs) 0 0 0 0 0) :=
  match k with
  | 0 | 1 | 2 | 3 | 4 | 5 => hasWord_encode rfl

theorem exec_measureCommand (gs : GReg) (k : Fin 6) (s : State) :
    exec (measureCommand gs k) s = .next (s.setRes (measure (s.G gs) k)) :=
  match k with
  | 0 | 1 | 2 | 3 | 4 | 5 => rfl

end Sys2Proof.Machine

namespace Sys2Proof.Proofs
open Sys2Proof.Machine

/-- Settles O38: each command's number is the leading count of its side's rows or columns. -/
theorem marginCommandsCountEmptyLines : Obligations.MarginCommandsCountEmptyLines := by
  intro gs s g
  have hword := hasWord_measureCommand gs
  have hexec (k : Fin 6) := exec_measureCommand gs k s
  have top := isLeadingCount_marginTop g
  have bottom := isLeadingCount_marginBottom g
  have left := isLeadingCount_marginLeft g
  have right := isLeadingCount_marginRight g
  exact ⟨hword 0, hword 1, hword 2, hword 3,
    ⟨_, hexec 0, top.le, fun _ y hx hy => px_eq_false_of_not_rowSet (top.empty y hy) hx, top.next⟩,
    ⟨_, hexec 1, bottom.le, fun _ y hx hy => px_eq_false_of_not_rowSet (bottom.empty y hy) hx, bottom.next⟩,
    ⟨_, hexec 2, left.le, fun x _ hx hy => px_eq_false_of_not_colSet (left.empty x hx) hy, left.next⟩,
    ⟨_, hexec 3, right.le, fun x _ hx hy => px_eq_false_of_not_colSet (right.empty x hx) hy, right.next⟩⟩

/-- Settles O39: the extent of a non-empty glyph runs from the one margin to the other. -/
theorem gwidthAndGheightMeasureTheExtent : Obligations.GwidthAndGheightMeasureTheExtent := by
  intro gs s g
  have hwidth : exec (.gwidth gs) s = .next (s.setRes (glyphWidth g)) := exec_measureCommand gs 4 s
  have hheight : exec (.gheight gs) s = .next (s.setRes (glyphHeight g)) := exec_measureCommand gs 5 s
  refine ⟨hasWord_measureCommand gs 4, hasWord_measureCommand gs 5, ?empty, fun hg => ⟨?columns, ?rows⟩⟩
  case empty =>
    intro hg
    rw [hwidth, hheight, hg, glyphWidth_zero, glyphHeight_zero]
    exact ⟨rfl, rfl⟩
  case columns =>
    obtain ⟨hsum, hfirst, hlast, hrange⟩ := colExtent_of_ne_zero hg
    rw [glyphWidth_of_ne_zero hg] at hwidth
    exact ⟨marginLeft g, 7 - marginRight g, by omega, by omega, hwidth, hfirst, hlast,
      fun x y hx hy hpx => hrange x hx ⟨y, hy, hpx⟩⟩
  case rows =>
    obtain ⟨hsum, hfirst, hlast, hrange⟩ := rowExtent_of_ne_zero hg
    rw [glyphHeight_of_ne_zero hg] at hheight
    exact ⟨marginTop g, 7 - marginBottom g, by omega, by omega, hheight, hfirst, hlast,
      fun x y hx hy hpx => hrange y hy ⟨x, hx, hpx⟩⟩

/-- Settles O40: the empty glyph by its counts, any other by the sums that its extents leave. -/
theorem marginsOfEmptyAndNonEmptyGlyphs : Obligations.MarginsOfEmptyAndNonEmptyGlyphs := by
  refine ⟨⟨by decide, by decide, by decide, by decide, glyphWidth_zero, glyphHeight_zero⟩, ?_⟩
  intro g hg
  obtain ⟨hrows, -⟩ := rowExtent_of_ne_zero hg
  obtain ⟨hcolumns, -⟩ := colExtent_of_ne_zero hg
  omega

end Sys2Proof.Proofs
end

section
/-! PROOFS. The masked merge (spec/44_glyph_merge.md): its bits, its naive form, and GMERGE. -/

namespace Sys2Proof.Machine

/-- Under a 1 of the mask the two exclusive ors with `a` cancel and leave `b`; under a 0 the second is masked out. -/
theorem getLsbD_merge (a b m : Word) (i : Nat) :
    (merge a b m).getLsbD i = if m.getLsbD i then b.getLsbD i else a.getLsbD i := by
  rw [merge, BitVec.getLsbD_xor, BitVec.getLsbD_and, BitVec.getLsbD_xor]
  cases m.getLsbD i with
  | true => rw [Bool.and_true, ← Bool.xor_assoc, Bool.xor_self, Bool.false_xor, if_pos rfl]
  | false => rw [Bool.and_false, Bool.xor_false, if_neg Bool.false_ne_true]

/-- The bit hack is the naive form (R140). -/
theorem merge_eq_or_of_masked (a b m : Word) : merge a b m = (a &&& ~~~m) ||| (b &&& m) := by
  refine BitVec.eq_of_getLsbD_eq fun i hi => ?_
  rw [getLsbD_merge, BitVec.getLsbD_or, BitVec.getLsbD_and, BitVec.getLsbD_and, BitVec.getLsbD_not]
  cases m.getLsbD i <;> simp [hi]

theorem exec_gmerge (gd ga gb gm : GReg) (s : State) :
    exec (.gmerge gd ga gb gm) s = .next (s.setG gd (merge (s.G ga) (s.G gb) (s.G gm))) := rfl

end Sys2Proof.Machine

namespace Sys2Proof.Proofs
open Sys2Proof.Machine

/-- Settles O42: what the command writes is the merge, which is read in its naive form and bit by bit. -/
theorem gmergeSelectsUnderTheMask : Obligations.GmergeSelectsUnderTheMask := by
  intro gd ga gb gm s a b m
  exact ⟨hasWord_encode rfl, exec_gmerge gd ga gb gm s, merge_eq_or_of_masked a b m, getLsbD_merge a b m⟩

end Sys2Proof.Proofs
end

section
/-! PROOFS. Shifts and cycles (spec/45_glyph_shift.md): the bits of the byte masks, the eight functions as pixel maps,
the common form of the commands, and the obligations about them. -/

namespace Sys2Proof.Machine

/-! ### The masks of the column shifts (R146) -/

/-- `Rep8` repeats the byte (R146). -/
theorem rep8_setWidth (b : BitVec 8) : rep8 (b.setWidth 64) = b.replicate 8 := by
  revert b; decide

theorem getLsbD_rep8 {b : Word} (hb : b.toNat ≤ 0xFF) {i : Nat} (hi : i < 64) :
    (rep8 b).getLsbD i = b.getLsbD (i % 8) := by
  have hbyte : (b.setWidth 8).setWidth 64 = b := by
    apply BitVec.eq_of_toNat_eq
    simp only [BitVec.toNat_setWidth]
    omega
  have hlt : i % 8 < 64 := by omega
  rw [← hbyte, rep8_setWidth, BitVec.getLsbD_replicate, BitVec.getLsbD_setWidth _ (BitVec.setWidth 8 b),
    decide_eq_true hi, decide_eq_true hlt]

theorem getLsbD_byteOnes (i : Nat) : (0xFF#64).getLsbD i = decide (i < 8) := by
  have hones : 0xFF#64 = (BitVec.allOnes 8).setWidth 64 := rfl
  rw [hones, BitVec.getLsbD_setWidth, BitVec.getLsbD_allOnes, ← Bool.decide_and]
  exact decide_eq_decide.2 (by omega)

/-- The mask of ShL keeps the bits of each byte from bit `n` on. -/
theorem getLsbD_shLMask (n : Nat) {i : Nat} (hi : i < 64) :
    (rep8 ((0xFF#64 <<< n) &&& 0xFF#64)).getLsbD i = decide (n ≤ i % 8) := by
  have hbyte : ((0xFF#64 <<< n) &&& 0xFF#64).toNat ≤ 0xFF := Nat.and_le_right
  rw [getLsbD_rep8 hbyte hi, BitVec.getLsbD_and, BitVec.getLsbD_shiftLeft, getLsbD_byteOnes, getLsbD_byteOnes,
    Bool.eq_iff_iff]
  simp only [Bool.and_eq_true, Bool.not_eq_true', decide_eq_true_eq, decide_eq_false_iff_not]
  omega

/-- The mask of ShR keeps the bits of each byte below bit `8 - n`. -/
theorem getLsbD_shRMask (n : Nat) {i : Nat} (hi : i < 64) :
    (rep8 (0xFF#64 >>> n)).getLsbD i = decide (n + i % 8 < 8) := by
  have hbyte : (0xFF#64 >>> n).toNat ≤ 0xFF := Nat.shiftRight_le 0xFF n
  rw [getLsbD_rep8 hbyte hi, BitVec.getLsbD_ushiftRight, getLsbD_byteOnes]

/-! ### The shifts as pixel maps (R146)

Within range the result's bit is the source pixel's; beyond it the mask or the word's edge clears the bit. -/

section
variable (g : Word) (n : Nat) {x y : Nat}

/-- The bit of a pixel within its row's byte. -/
theorem bitOf_mod_eight (hx : x < 8) (hy : y < 8) : bitOf x y % 8 = 7 - x := by
  unfold bitOf; omega

theorem px_shL (hx : x < 8) (hy : y < 8) : px (shL g n) x y = if x + n ≤ 7 then px g (x + n) y else false := by
  have hi := bitOf_lt x y
  rw [px, shL, BitVec.getLsbD_and, getLsbD_shLMask n hi, bitOf_mod_eight hx hy, BitVec.getLsbD_shiftLeft]
  split
  case isTrue h =>
    have hbit : bitOf x y - n = bitOf (x + n) y := by unfold bitOf; omega
    have hge : ¬bitOf x y < n := by unfold bitOf; omega
    have hkept : n ≤ 7 - x := by omega
    simp [hi, hge, hkept, hbit, px]
  case isFalse h =>
    have hlost : ¬n ≤ 7 - x := by omega
    simp [hlost]

theorem px_shR (hx : x < 8) (hy : y < 8) : px (shR g n) x y = if n ≤ x then px g (x - n) y else false := by
  rw [px, shR, BitVec.getLsbD_and, getLsbD_shRMask n (bitOf_lt x y), bitOf_mod_eight hx hy, BitVec.getLsbD_ushiftRight]
  split
  case isTrue h =>
    have hbit : n + bitOf x y = bitOf (x - n) y := by unfold bitOf; omega
    have hkept : n + (7 - x) < 8 := by omega
    simp [hkept, hbit, px]
  case isFalse h =>
    have hlost : ¬n + (7 - x) < 8 := by omega
    simp [hlost]

theorem px_shU (hx : x < 8) (hy : y < 8) : px (shU g n) x y = if y + n ≤ 7 then px g x (y + n) else false := by
  rw [px, shU, BitVec.getLsbD_shiftLeft, decide_eq_true (bitOf_lt x y), Bool.true_and]
  split
  case isTrue h =>
    have hbit : bitOf x y - 8 * n = bitOf x (y + n) := by unfold bitOf; omega
    have hge : ¬bitOf x y < 8 * n := by unfold bitOf; omega
    simp [hge, hbit, px]
  case isFalse h =>
    have hlt : bitOf x y < 8 * n := by unfold bitOf; omega
    simp [hlt]

theorem px_shD (hx : x < 8) (hy : y < 8) : px (shD g n) x y = if n ≤ y then px g x (y - n) else false := by
  rw [px, shD, BitVec.getLsbD_ushiftRight]
  split
  case isTrue h =>
    have hbit : 8 * n + bitOf x y = bitOf x (y - n) := by unfold bitOf; omega
    rw [hbit, px]
  case isFalse h =>
    have hge : 64 ≤ 8 * n + bitOf x y := by unfold bitOf; omega
    exact BitVec.getLsbD_of_ge g _ hge

/-! ### The cycles as pixel maps (R146) -/

theorem px_or (a b : Word) (x y : Nat) : px (a ||| b) x y = (px a x y || px b x y) := BitVec.getLsbD_or

variable {n}

/-- In each column one of the two shifts is clear and the other holds the pixel. -/
theorem px_cyL (hn : n ≤ 7) (hx : x < 8) (hy : y < 8) : px (cyL g n) x y = px g ((x + n) % 8) y := by
  rw [cyL]
  split
  case isTrue h0 => rw [h0, Nat.add_zero, Nat.mod_eq_of_lt hx]
  case isFalse h0 =>
    rw [px_or, px_shL g n hx hy, px_shR g (8 - n) hx hy]
    by_cases h : x + n ≤ 7
    · have hback : ¬8 - n ≤ x := by omega
      have hsrc : (x + n) % 8 = x + n := by omega
      rw [if_pos h, if_neg hback, Bool.or_false, hsrc]
    · have hback : 8 - n ≤ x := by omega
      have hsrc : (x + n) % 8 = x - (8 - n) := by omega
      rw [if_neg h, if_pos hback, Bool.false_or, hsrc]

theorem px_cyR (hn : n ≤ 7) (hx : x < 8) (hy : y < 8) : px (cyR g n) x y = px g ((x + 8 - n) % 8) y := by
  rw [cyR]
  split
  case isTrue h0 => rw [h0, Nat.sub_zero, Nat.add_mod_right, Nat.mod_eq_of_lt hx]
  case isFalse h0 =>
    rw [px_or, px_shR g n hx hy, px_shL g (8 - n) hx hy]
    by_cases h : n ≤ x
    · have hback : ¬x + (8 - n) ≤ 7 := by omega
      have hsrc : (x + 8 - n) % 8 = x - n := by omega
      rw [if_pos h, if_neg hback, Bool.or_false, hsrc]
    · have hback : x + (8 - n) ≤ 7 := by omega
      have hsrc : (x + 8 - n) % 8 = x + (8 - n) := by omega
      rw [if_neg h, if_pos hback, Bool.false_or, hsrc]

/-- A row that leaves at the top of the word comes back at its bottom. -/
theorem px_cyU (hn : n ≤ 7) (hx : x < 8) (hy : y < 8) : px (cyU g n) x y = px g x ((y + n) % 8) := by
  have hrot : 8 * n % 64 = 8 * n := by omega
  rw [px, cyU, BitVec.getLsbD_rotateLeft, hrot]
  by_cases h : y + n ≤ 7
  · have hge : ¬bitOf x y < 8 * n := by unfold bitOf; omega
    have hbit : bitOf x y - 8 * n = bitOf x ((y + n) % 8) := by unfold bitOf; omega
    simp [hge, bitOf_lt, hbit, px]
  · have hlt : bitOf x y < 8 * n := by unfold bitOf; omega
    have hbit : 64 - 8 * n + bitOf x y = bitOf x ((y + n) % 8) := by unfold bitOf; omega
    simp [hlt, hbit, px]

theorem px_cyD (hn : n ≤ 7) (hx : x < 8) (hy : y < 8) : px (cyD g n) x y = px g x ((y + 8 - n) % 8) := by
  have hrot : 8 * n % 64 = 8 * n := by omega
  rw [px, cyD, BitVec.getLsbD_rotateRight, hrot]
  by_cases h : n ≤ y
  · have hlt : bitOf x y < 64 - 8 * n := by unfold bitOf; omega
    have hbit : 8 * n + bitOf x y = bitOf x ((y + 8 - n) % 8) := by unfold bitOf; omega
    simp [hlt, hbit, px]
  · have hge : ¬bitOf x y < 64 - 8 * n := by unfold bitOf; omega
    have hbit : bitOf x y - (64 - 8 * n) = bitOf x ((y + 8 - n) % 8) := by unfold bitOf; omega
    simp [hge, bitOf_lt, hbit, px]

end

/-! ### The common form of the commands (R147 to R154) -/

/-- The command with the opcode `0x40 + k`. -/
def shiftCommand (gd gs : GReg) (n : Nibble) : Fin 8 → Instr
  | 0 => .gshl gd gs n
  | 1 => .gshr gd gs n
  | 2 => .gshu gd gs n
  | 3 => .gshd gd gs n
  | 4 => .gcyl gd gs n
  | 5 => .gcyr gd gs n
  | 6 => .gcyu gd gs n
  | 7 => .gcyd gd gs n

/-- The function that command applies. -/
def shiftFn : Fin 8 → Word → Nat → Word
  | 0 => shL
  | 1 => shR
  | 2 => shU
  | 3 => shD
  | 4 => cyL
  | 5 => cyR
  | 6 => cyU
  | 7 => cyD

section
variable (gd gs : GReg) {n : Nibble} (k : Fin 8) (s : State)

theorem hasWord_shiftCommand : HasWord (shiftCommand gd gs n k)
    (cmdWord (0x40 + BitVec.ofNat 8 k.val) (nib gd) (nib gs) n 0 0 0) :=
  match k with
  | 0 | 1 | 2 | 3 | 4 | 5 | 6 | 7 => hasWord_encode rfl

theorem exec_shiftCommand : exec (shiftCommand gd gs n k) s =
    complete (encode (shiftCommand gd gs n k)) s (shiftEffect (shiftFn k) gd gs n s) :=
  match k with
  | 0 | 1 | 2 | 3 | 4 | 5 | 6 | 7 => rfl

theorem exec_shiftCommand_of_inRange (hn : InRange n) :
    exec (shiftCommand gd gs n k) s = .next (s.setG gd (shiftFn k (s.G gs) n.toNat)) := by
  rw [exec_shiftCommand, shiftEffect, require_pos hn, complete_ok]

theorem shiftCommand_faults_of_not_inRange (hn : ¬InRange n) : Faults (shiftCommand gd gs n k) s .operandRange := by
  rw [Faults, exec_shiftCommand, shiftEffect, require_neg hn, complete_error]

end

end Sys2Proof.Machine

namespace Sys2Proof.Proofs
open Sys2Proof.Machine

/-- Settles O44: the commands 0 to 3 of the common form, and the pixel map of the shift that each applies. -/
theorem shiftCommandsMoveAndClear : Obligations.ShiftCommandsMoveAndClear := by
  intro gd gs n s g k
  have hword := hasWord_shiftCommand gd gs (n := n)
  refine ⟨hword 0, hword 1, hword 2, hword 3, ?inRange, ?outOfRange⟩
  case inRange =>
    intro hn
    have hexec (i : Fin 8) := exec_shiftCommand_of_inRange gd gs i s hn
    exact ⟨⟨_, hexec 0, fun _ _ => px_shL g k⟩, ⟨_, hexec 1, fun _ _ => px_shR g k⟩,
      ⟨_, hexec 2, fun _ _ => px_shU g k⟩, ⟨_, hexec 3, fun _ _ => px_shD g k⟩⟩
  case outOfRange =>
    intro hn
    have hfaults (i : Fin 8) := shiftCommand_faults_of_not_inRange gd gs i s hn.not_ge
    exact ⟨hfaults 0, hfaults 1, hfaults 2, hfaults 3⟩

/-- Settles O45: the commands 4 to 7 of the common form, and the pixel map of the cycle that each applies. -/
theorem cycleCommandsMoveAndWrap : Obligations.CycleCommandsMoveAndWrap := by
  intro gd gs n s g k
  have hword := hasWord_shiftCommand gd gs (n := n)
  refine ⟨hword 4, hword 5, hword 6, hword 7, ?inRange, ?outOfRange⟩
  case inRange =>
    intro hn
    have hexec (i : Fin 8) := exec_shiftCommand_of_inRange gd gs i s hn
    exact ⟨⟨_, hexec 4, fun _ _ => px_cyL g hn⟩, ⟨_, hexec 5, fun _ _ => px_cyR g hn⟩,
      ⟨_, hexec 6, fun _ _ => px_cyU g hn⟩, ⟨_, hexec 7, fun _ _ => px_cyD g hn⟩⟩
  case outOfRange =>
    intro hn
    have hfaults (i : Fin 8) := shiftCommand_faults_of_not_inRange gd gs i s hn.not_ge
    exact ⟨hfaults 4, hfaults 5, hfaults 6, hfaults 7⟩

end Sys2Proof.Proofs
end

section
/-! PROOFS. Rectangle geometry (spec/46_rect_clipper.md): a rectangle register and its four integers, the common form of
RNORM, RTOABS and RTOREG, `Clip` axis by axis, and the obligations about them. -/

namespace Sys2Proof.Machine

/-! ### A rectangle register and the four integers it holds (R22, R165) -/

theorem inI32_toInt (v : I32) : InI32 v.toInt := by
  have hlo := BitVec.le_toInt v
  have hhi := BitVec.toInt_lt (x := v)
  omega

theorem toInt_ofInt_of_inI32 {v : Int} (h : InI32 v) : (BitVec.ofInt 32 v).toInt = v := by
  obtain ⟨hlo, hhi⟩ := h
  exact BitVec.toInt_ofInt_eq_self (by decide) hlo (by omega)

theorem Rect.ints_fits (q : Rect) : q.ints.Fits :=
  ⟨inI32_toInt q.x, inI32_toInt q.y, inI32_toInt q.w, inI32_toInt q.h⟩

theorem State.rect_fits (s : State) (i : RReg) : (s.rect i).Fits := (s.R i).ints_fits

@[simp] theorem Rect.toRect_ints (q : Rect) : q.ints.toRect = q := by
  simp [Rect.ints, IRect.toRect]

theorem State.toRect_rect (s : State) (i : RReg) : (s.rect i).toRect = s.R i := (s.R i).toRect_ints

theorem IRect.ints_toRect {q : IRect} (h : q.Fits) : q.toRect.ints = q := by
  obtain ⟨hx, hy, hw, hh⟩ := h
  simp only [Rect.ints, IRect.toRect, toInt_ofInt_of_inI32 hx, toInt_ofInt_of_inI32 hy, toInt_ofInt_of_inI32 hw,
    toInt_ofInt_of_inI32 hh]

/-- A rectangle that fits is read back as it was written. -/
theorem State.rect_setR_toRect (s : State) (i : RReg) {q : IRect} (h : q.Fits) : (s.setR i q.toRect).rect i = q := by
  rw [State.rect, State.R_setR_self, IRect.ints_toRect h]

/-! ### The common form of RNORM, RTOABS and RTOREG (R162 to R164) -/

/-- The command with the opcode `0x50 + k`. -/
def rectCommand (rd rs : RReg) : Fin 3 → Instr
  | 0 => .rnorm rd rs
  | 1 => .rtoabs rd rs
  | 2 => .rtoreg rd rs

/-- The function that command applies. -/
def rectFn : Fin 3 → IRect → IRect
  | 0 => normalizeRect
  | 1 => toAbsolute
  | 2 => toRegular

section
variable (rd rs : RReg) (k : Fin 3) (s : State)

theorem hasWord_rectCommand :
    HasWord (rectCommand rd rs k) (cmdWord (0x50 + BitVec.ofNat 8 k.val) (nib rd) (nib rs) 0 0 0 0) :=
  match k with
  | 0 | 1 | 2 => hasWord_encode rfl

theorem exec_rectCommand : exec (rectCommand rd rs k) s =
    complete (encode (rectCommand rd rs k)) s (s.putRect rd (rectFn k (s.rect rs))) :=
  match k with
  | 0 | 1 | 2 => rfl

/-- A result that fits is written to `R[rd]`, exactly, and nothing else is (R165). -/
theorem exec_rectCommand_of_fits (h : (rectFn k (s.rect rs)).Fits) :
    ∃ t, exec (rectCommand rd rs k) s = .next t ∧ t = s.setR rd (t.R rd) ∧ t.rect rd = rectFn k (s.rect rs) := by
  refine ⟨s.setR rd (rectFn k (s.rect rs)).toRect, ?_, ?_, State.rect_setR_toRect s rd h⟩
  · rw [exec_rectCommand, State.putRect, require_pos h, complete_ok]
  · rw [State.R_setR_self]

theorem rectCommand_faults_of_not_fits (h : ¬(rectFn k (s.rect rs)).Fits) :
    Faults (rectCommand rd rs k) s .intOverflow := by
  rw [Faults, exec_rectCommand, State.putRect, require_neg h, complete_error]

end

/-! ### Normalization, one axis at a time (R162)

A side of a rectangle starts at `p` and has the signed length `l`. -/

/-- The normalized side does not fit its two fields: its start or its length is out of range. -/
abbrev SideOverflows (p l : Int) : Prop := l < 0 ∧ (p + l < -(2 ^ 31) ∨ l = -(2 ^ 31))

section
variable {p l : Int}

theorem normalizedSide_fits_iff (hp : InI32 p) (hl : InI32 l) :
    InI32 (if l < 0 then p + l else p) ∧ InI32 (if l < 0 then -l else l) ↔ ¬SideOverflows p l := by
  split <;> omega

theorem normalizedSide_length_nonneg : 0 ≤ if l < 0 then -l else l := by
  split <;> omega

/-- A side of negative length swaps its two ends. -/
theorem normalizedSide_ends :
    ({if l < 0 then p + l else p, (if l < 0 then p + l else p) + (if l < 0 then -l else l)} : Set Int) = {p, p + l} := by
  split
  case isTrue => rw [Int.add_neg_cancel_right, Set.pair_comm]
  case isFalse => rfl

end

theorem normalizeRect_fits_iff {q : IRect} (h : q.Fits) :
    (normalizeRect q).Fits ↔ ¬(SideOverflows q.x q.w ∨ SideOverflows q.y q.h) := by
  obtain ⟨hx, hy, hw, hh⟩ := h
  rw [not_or, ← normalizedSide_fits_iff hx hw, ← normalizedSide_fits_iff hy hh]
  simp only [IRect.Fits, normalizeRect]
  tauto

theorem normalizeRect_of_nonneg {q : IRect} (hw : 0 ≤ q.w) (hh : 0 ≤ q.h) : normalizeRect q = q := by
  simp only [normalizeRect, if_neg hw.not_gt, if_neg hh.not_gt]

/-! ### The two encodings (R163, R164) -/

theorem toAbsolute_fits_iff {q : IRect} (h : q.Fits) :
    (toAbsolute q).Fits ↔ InI32 (q.x + q.w) ∧ InI32 (q.y + q.h) := by
  obtain ⟨hx, hy, -, -⟩ := h
  exact ⟨fun ⟨_, _, hw, hh⟩ => ⟨hw, hh⟩, fun ⟨hw, hh⟩ => ⟨hx, hy, hw, hh⟩⟩

theorem toRegular_fits_iff {q : IRect} (h : q.Fits) :
    (toRegular q).Fits ↔ InI32 (q.w - q.x) ∧ InI32 (q.h - q.y) := by
  obtain ⟨hx, hy, -, -⟩ := h
  exact ⟨fun ⟨_, _, hw, hh⟩ => ⟨hw, hh⟩, fun ⟨hw, hh⟩ => ⟨hx, hy, hw, hh⟩⟩

theorem toRegular_toAbsolute (q : IRect) : toRegular (toAbsolute q) = q := by
  simp [toRegular, toAbsolute]

theorem toAbsolute_toRegular (q : IRect) : toAbsolute (toRegular q) = q := by
  simp [toRegular, toAbsolute]

/-- A command whose function undoes that of an earlier one gives the earlier one's source back, in any register. -/
theorem exec_rectCommand_undo {j k : Fin 3} (hundo : ∀ q, rectFn j (rectFn k q) = q) {rd rs : RReg} (re : RReg)
    {s t : State} (h : t.rect rd = rectFn k (s.rect rs)) :
    exec (rectCommand re rd j) t = .next (t.setR re (s.R rs)) := by
  have hback : rectFn j (t.rect rd) = s.rect rs := by rw [h, hundo]
  rw [exec_rectCommand, State.putRect, hback, require_pos (s.rect_fits rs), complete_ok, State.toRect_rect]

/-! ### Clip, one axis at a time (R166)

On each axis `Clip` meets the rectangle's columns or rows `a .. b - 1` with the bounds `0 .. n - 1`. -/

/-- The column or row `i` lies in the rectangle and in the bounds. -/
abbrev InBothRanges (a b n i : Int) : Prop := (a ≤ i ∧ i < b) ∧ (0 ≤ i ∧ i < n)

section
variable {a b n : Int}

/-- The two ranges meet unless one is empty or they lie side by side; the first common number is `max a 0`. -/
theorem exists_inBothRanges_iff : (∃ i, InBothRanges a b n i) ↔ 0 < n ∧ 0 < b ∧ a < n ∧ a < b := by
  constructor
  · rintro ⟨i, hi⟩
    omega
  · intro h
    exact ⟨max a 0, by omega⟩

theorem clampInt_zero_eq (hn : 0 ≤ n) (v : Int) : clampInt v 0 n = max 0 (min v n) := by
  unfold clampInt
  split_ifs <;> omega

/-- Clamping both ends leaves exactly the common numbers. -/
theorem inBothRanges_iff_clamped (hn : 0 ≤ n) {i : Int} :
    clampInt a 0 n ≤ i ∧ i < clampInt a 0 n + (clampInt b 0 n - clampInt a 0 n) ↔ InBothRanges a b n i := by
  rw [clampInt_zero_eq hn, clampInt_zero_eq hn]
  omega

/-- R166's post-condition, on one axis. -/
theorem clamped_bounds (h : ∃ i, InBothRanges a b n i) :
    0 ≤ clampInt a 0 n ∧ 0 < clampInt b 0 n - clampInt a 0 n ∧ clampInt b 0 n - clampInt a 0 n ≤ n ∧
    clampInt a 0 n + (clampInt b 0 n - clampInt a 0 n) ≤ n := by
  have hmeet := exists_inBothRanges_iff.mp h
  rw [clampInt_zero_eq hmeet.1.le, clampInt_zero_eq hmeet.1.le]
  omega

end

/-! ### Clip (R166) -/

/-- The cell `(i, j)` lies in the regular rectangle `q`, whatever its signs, and in the bounds. -/
abbrev CommonCell (q : IRect) (W H i j : Int) : Prop :=
  (min q.x (q.x + q.w) ≤ i ∧ i < max q.x (q.x + q.w)) ∧ (min q.y (q.y + q.h) ≤ j ∧ j < max q.y (q.y + q.h)) ∧
  (0 ≤ i ∧ i < W) ∧ (0 ≤ j ∧ j < H)

section
variable {q : IRect} {W H : Int}

theorem commonCell_iff {i j : Int} : CommonCell q W H i j ↔
    InBothRanges (absNormal q).x (absNormal q).w W i ∧ InBothRanges (absNormal q).y (absNormal q).h H j := by
  rw [and_and_and_comm, and_assoc]
  rfl

theorem exists_commonCell_iff : (∃ i j, CommonCell q W H i j) ↔
    (∃ i, InBothRanges (absNormal q).x (absNormal q).w W i) ∧
    (∃ j, InBothRanges (absNormal q).y (absNormal q).h H j) := by
  simp only [commonCell_iff, exists_and_left, exists_and_right]

theorem absNormal_le (q : IRect) : (absNormal q).x ≤ (absNormal q).w ∧ (absNormal q).y ≤ (absNormal q).h :=
  ⟨min_le_max, min_le_max⟩

/-- R166's tests say that there is no common cell. -/
theorem outside_iff : Outside (absNormal q) W H ↔ ¬∃ i j, CommonCell q W H i j := by
  have hle := absNormal_le q
  rw [exists_commonCell_iff, exists_inBothRanges_iff, exists_inBothRanges_iff]
  omega

theorem clip_of_overflow (h : ¬(InI32 (q.x + q.w) ∧ InI32 (q.y + q.h))) : clip q W H = .error .intOverflow :=
  if_neg h

theorem clip_of_not_common (h : InI32 (q.x + q.w) ∧ InI32 (q.y + q.h)) (hc : ¬∃ i j, CommonCell q W H i j) :
    clip q W H = .ok (false, absNormal q) := by
  rw [clip, if_pos h, if_pos (outside_iff.mpr hc)]

theorem clip_of_common (h : InI32 (q.x + q.w) ∧ InI32 (q.y + q.h)) (hc : ∃ i j, CommonCell q W H i j) :
    clip q W H = .ok (true, clamped (absNormal q) W H) := by
  rw [clip, if_pos h, if_neg fun ho => outside_iff.mp ho hc]

theorem absNormal_fits (hq : q.Fits) (h : InI32 (q.x + q.w) ∧ InI32 (q.y + q.h)) : (absNormal q).Fits := by
  obtain ⟨hx, hy, -, -⟩ := hq
  simp only [IRect.Fits, absNormal]
  omega

/-- A true result lies in the bounds and covers exactly the common cells. -/
theorem clamped_absNormal_spec (hc : ∃ i j, CommonCell q W H i j) :
    let r := clamped (absNormal q) W H
    (∀ i j, (r.x ≤ i ∧ i < r.x + r.w ∧ r.y ≤ j ∧ j < r.y + r.h) ↔ CommonCell q W H i j) ∧
    0 ≤ r.x ∧ 0 ≤ r.y ∧ 0 < r.w ∧ r.w ≤ W ∧ 0 < r.h ∧ r.h ≤ H ∧ r.x + r.w ≤ W ∧ r.y + r.h ≤ H := by
  obtain ⟨hcols, hrows⟩ := exists_commonCell_iff.mp hc
  obtain ⟨hx, hw, hwW, hxW⟩ := clamped_bounds hcols
  obtain ⟨hy, hh, hhH, hyH⟩ := clamped_bounds hrows
  refine ⟨fun i j => ?_, hx, hy, hw, hwW, hh, hhH, hxW, hyH⟩
  rw [commonCell_iff, ← inBothRanges_iff_clamped (hw.le.trans hwW), ← inBothRanges_iff_clamped (hh.le.trans hhH),
    and_assoc]
  rfl

/-- Past the overflow test `Clip` returns a rectangle that fits a register when the bounds do, and that is normalized in
its encoding: regular when the boolean is true, absolute when it is false. -/
theorem clip_of_not_overflow (hq : q.Fits) (hW : InI32 W) (hH : InI32 H)
    (h : InI32 (q.x + q.w) ∧ InI32 (q.y + q.h)) :
    ∃ ok r, clip q W H = .ok (ok, r) ∧ r.Fits ∧
      0 ≤ (if ok then r.w else r.w - r.x) ∧ 0 ≤ (if ok then r.h else r.h - r.y) := by
  by_cases hc : ∃ i j, CommonCell q W H i j
  case pos =>
    obtain ⟨-, hx, hy, hw, hwW, hh, hhH, hxW, hyH⟩ := clamped_absNormal_spec hc
    refine ⟨_, _, clip_of_common h hc, ?_, hw.le, hh.le⟩
    simp only [IRect.Fits]
    omega
  case neg =>
    obtain ⟨hxw, hyh⟩ := absNormal_le q
    exact ⟨_, _, clip_of_not_common h hc, absNormal_fits hq h, Int.sub_nonneg.mpr hxw, Int.sub_nonneg.mpr hyh⟩

end

/-! ### RCLIP (R167) -/

section
variable {rd rs rb : RReg} {s : State}

theorem exec_rclip : exec (.rclip rd rs rb) s = execRclip rd rs rb s := rfl

theorem exec_rclip_of_clip_ok {ok : Bool} {r : IRect}
    (h : clip (s.rect rs) (s.rect rb).w (s.rect rb).h = .ok (ok, r)) :
    exec (.rclip rd rs rb) s = .next ((s.setR rd r.toRect).setT ok) := by
  rw [exec_rclip, execRclip, h, complete_ok]

theorem rclip_faults_of_clip_error {k : Cause} (h : clip (s.rect rs) (s.rect rb).w (s.rect rb).h = .error k) :
    Faults (.rclip rd rs rb) s k := by
  rw [Faults, exec_rclip, execRclip, h, complete_error]

end

end Sys2Proof.Machine

namespace Sys2Proof.Proofs
open Sys2Proof.Machine

/-- Settles O47: the command 0 of the common form; each side is normalized by itself. -/
theorem rnormNormalizes : Obligations.RnormNormalizes := by
  intro rd rs s q bad
  have hfits : (rectFn 0 (s.rect rs)).Fits ↔ ¬bad := normalizeRect_fits_iff (s.rect_fits rs)
  refine ⟨hasWord_rectCommand rd rs 0, fun hbad => rectCommand_faults_of_not_fits rd rs 0 s fun h => hfits.mp h hbad,
    fun hbad => ?_⟩
  obtain ⟨t, hexec, hframe, hrect⟩ := exec_rectCommand_of_fits rd rs 0 s (hfits.mpr hbad)
  refine ⟨t, hexec, hframe, ?_⟩
  rw [← State.toRect_rect t, hrect]
  refine ⟨rfl, rfl, rfl, rfl, normalizedSide_length_nonneg, normalizedSide_length_nonneg, normalizedSide_ends,
    normalizedSide_ends, fun hw hh => ?_⟩
  rw [rectFn, normalizeRect_of_nonneg hw hh, State.toRect_rect]

/-- Settles O48: the commands 1 and 2 of the common form, whose functions are inverse to each other. -/
theorem rtoabsAndRtoregConvert : Obligations.RtoabsAndRtoregConvert := by
  intro rd rs re s q
  have habs : (rectFn 1 q).Fits ↔ InI32 (q.x + q.w) ∧ InI32 (q.y + q.h) := toAbsolute_fits_iff (s.rect_fits rs)
  have hreg : (rectFn 2 q).Fits ↔ InI32 (q.w - q.x) ∧ InI32 (q.h - q.y) := toRegular_fits_iff (s.rect_fits rs)
  refine ⟨hasWord_rectCommand rd rs 1, hasWord_rectCommand rd rs 2,
    fun hout => rectCommand_faults_of_not_fits rd rs 1 s (mt habs.mp hout),
    fun hout => rectCommand_faults_of_not_fits rd rs 2 s (mt hreg.mp hout), fun hw hh => ?toAbsolute,
    fun hw hh => ?toRegular⟩
  case toAbsolute =>
    obtain ⟨t, hexec, hframe, hrect⟩ := exec_rectCommand_of_fits rd rs 1 s (habs.mpr ⟨hw, hh⟩)
    exact ⟨t, hexec, hframe, hrect, exec_rectCommand_undo (j := 2) (k := 1) toRegular_toAbsolute re hrect⟩
  case toRegular =>
    obtain ⟨t, hexec, hframe, hrect⟩ := exec_rectCommand_of_fits rd rs 2 s (hreg.mpr ⟨hw, hh⟩)
    exact ⟨t, hexec, hframe, hrect, exec_rectCommand_undo (j := 1) (k := 2) toAbsolute_toRegular re hrect⟩

/-- Settles O49: the tests of `Clip` are those for a common cell, and the clamped rectangle covers the common cells. -/
theorem clipIsTheIntersection : Obligations.ClipIsTheIntersection := by
  intro q W H inside
  exact ⟨clip_of_overflow, fun hw hh => ⟨clip_of_not_common ⟨hw, hh⟩, fun hc =>
    ⟨_, clip_of_common ⟨hw, hh⟩ hc, clamped_absNormal_spec hc⟩⟩⟩

/-- Settles O51: the bounds fit as register fields, so what `Clip` returns fits and is read back as it was written. -/
theorem rclipStoresTheClippedRectangle : Obligations.RclipStoresTheClippedRectangle := by
  intro rd rs rb s q
  refine ⟨hasWord_encode rfl, fun hout => rclip_faults_of_clip_error (clip_of_overflow hout), fun hw hh => ?_⟩
  obtain ⟨-, -, hW, hH⟩ := s.rect_fits rb
  obtain ⟨ok, r, hclip, hfits, hnormal⟩ := clip_of_not_overflow (s.rect_fits rs) hW hH ⟨hw, hh⟩
  refine ⟨ok, r, _, hclip, exec_rclip_of_clip_ok hclip, ?_, ?_, hnormal⟩
  · rw [State.setT_R, State.R_setR_self]
  · rw [State.setT_rect, State.rect_setR_toRect s rd hfits]

end Sys2Proof.Proofs
end

section
/-! PROOFS. The canvas commands but CLINE, and NOP (spec/47_canvas.md): the tests of a command taken one at a time, each
command as its tests and what follows them, one word of a canvas read or written, the view that CCROP makes, and the
obligations about them. -/

namespace Sys2Proof.Machine

/-! ### The first test of a command, failed and passed (R181) -/

section
variable {i : Instr} {s : State} {p : Prop} [Decidable p] {k : Cause} {e : Effect}

theorem faults_of_not_require (hexec : exec i s = complete (encode i) s (require p k e)) (h : ¬p) : Faults i s k := by
  rw [Faults, hexec, require_neg h, complete_error]

theorem exec_of_require (hexec : exec i s = complete (encode i) s (require p k e)) (h : p) :
    exec i s = complete (encode i) s e := by
  rw [hexec, require_pos h]

end

/-! ### Each command as its tests and what follows them (R182 to R193) -/

section
variable (g : GReg) (cs : CReg) (rr : RReg) (s : State)

theorem exec_caddr : exec (.caddr cs rr) s = complete (encode (.caddr cs rr)) s
    (require (s.C cs).WF .badCanvas <|
     require ((s.C cs).Reaches (s.rect rr).x (s.rect rr).y) .canvasBounds <|
     .ok (s.setRes ((s.C cs).cellAddr (s.rect rr).x (s.rect rr).y))) := rfl

theorem exec_cldg : exec (.cldg g cs rr) s = complete (encode (.cldg g cs rr)) s
    (require (s.C cs).WF .badCanvas <|
     require ((s.C cs).Reaches (s.rect rr).x (s.rect rr).y) .canvasBounds <|
     require ((s.C cs).Fits s.mem.words) .memRange <|
     (s.loadWord ((s.C cs).cellAddr (s.rect rr).x (s.rect rr).y)).map (s.setG g)) := by
  rw [exec, execCldg]
  cases s.loadWord ((s.C cs).cellAddr (s.rect rr).x (s.rect rr).y) <;> rfl

theorem exec_cstg : exec (.cstg g cs rr) s = complete (encode (.cstg g cs rr)) s
    (require (s.C cs).WF .badCanvas <|
     require ((s.C cs).Reaches (s.rect rr).x (s.rect rr).y) .canvasBounds <|
     require ((s.C cs).Fits s.mem.words) .memRange <|
     s.storeWord ((s.C cs).cellAddr (s.rect rr).x (s.rect rr).y) (s.G g)) := rfl

theorem exec_cat : exec (.cat g cs rr) s = complete (encode (.cat g cs rr)) s
    (require (s.C cs).WF .badCanvas <|
     require ((s.C cs).Fits s.mem.words) .memRange <|
     if (s.C cs).IsNull ∨ ¬(s.C cs).InCells (s.rect rr).x (s.rect rr).y then .ok ((s.setG g 0).setT false)
     else (s.loadWord ((s.C cs).cellAddr (s.rect rr).x (s.rect rr).y)).map fun v => (s.setG g v).setT true) := by
  rw [exec, execCat]
  cases s.loadWord ((s.C cs).cellAddr (s.rect rr).x (s.rect rr).y) <;> rfl

theorem exec_cput : exec (.cput g cs rr) s = complete (encode (.cput g cs rr)) s
    (require (s.C cs).WF .badCanvas <|
     require ((s.C cs).Fits s.mem.words) .memRange <|
     if (s.C cs).IsNull ∨ ¬(s.C cs).InCells (s.rect rr).x (s.rect rr).y then .ok (s.setT false)
     else (s.storeWord ((s.C cs).cellAddr (s.rect rr).x (s.rect rr).y) (s.G g)).map fun t => t.setT true) := by
  rw [exec, execCput]
  cases s.storeWord ((s.C cs).cellAddr (s.rect rr).x (s.rect rr).y) (s.G g) <;> rfl

theorem exec_cisnull : exec (.cisnull cs) s = complete (encode (.cisnull cs)) s
    (require (s.C cs).WF .badCanvas <| .ok (s.setT (decide (s.C cs).IsNull))) := rfl

theorem exec_cfill : exec (.cfill cs g) s = complete (encode (.cfill cs g)) s
    (require (s.C cs).WF .badCanvas <|
     require ((s.C cs).Fits s.mem.words) .memRange <|
     s.storeAll (s.G g) (s.C cs).cellAddrs) := rfl

theorem exec_cplot : exec (.cplot cs rr) s = complete (encode (.cplot cs rr)) s
    (require (s.C cs).WF .badCanvas <|
     require ((s.C cs).Fits s.mem.words) .memRange <|
     (s.plot (s.C cs) (s.rect rr).x (s.rect rr).y).map fun bt => bt.2.setT bt.1) := by
  rw [exec, execCplot]
  cases s.plot (s.C cs) (s.rect rr).x (s.rect rr).y <;> rfl

end

/-! ### The address of a cell (R176, R177, R180, R182) -/

section
variable {c : Canvas} {x y : Int}

theorem Canvas.reaches_iff : c.Reaches x y ↔ ¬c.IsNull ∧ c.InCells x y := by
  rw [Canvas.Reaches, not_or, not_not]

/-- The least is that of a canvas at 0, the largest that of the last cell of the largest canvas at the highest base. -/
theorem Canvas.cellAddr_bounds (hw : c.WF) (hi : c.InCells x y) :
    0 ≤ c.cellAddr x y ∧ c.cellAddr x y ≤ 2 ^ 32 - 1 + (2 ^ 31 - 2) + (2 ^ 31 - 2) * (2 ^ 31 - 1) := by
  obtain ⟨-, -, hstride, -⟩ := hw
  obtain ⟨⟨hx0, hx⟩, hy0, hy⟩ := hi
  have hbase := c.base.isLt
  have hwidth := (inI32_toInt c.width).2
  have hheight := (inI32_toInt c.height).2
  have hrow0 : 0 ≤ y * c.stride.toInt := Int.mul_nonneg hy0 hstride
  have hrow : y * c.stride.toInt ≤ (2 ^ 31 - 2) * (2 ^ 31 - 1) :=
    Int.mul_le_mul (by omega) (inI32_toInt c.stride).2 hstride (by decide)
  unfold Canvas.cellAddr
  omega

/-- A canvas with a cell fits when its last cell lies in MEM (R45). -/
theorem Canvas.fits_iff_lastCell {words : Nat} (hn : ¬c.IsNull) :
    c.Fits words ↔ c.cellAddr (c.width.toInt - 1) (c.height.toInt - 1) < words := by
  rw [Canvas.Fits, or_iff_right hn, Canvas.cellAddr, Int.add_right_comm]

end

/-- A bit vector holds a non-negative integer below its bound exactly. -/
theorem toNat_ofInt_of_bounds {n : Nat} {a : Int} (h0 : 0 ≤ a) (h : a < 2 ^ n) :
    ((BitVec.ofInt n a).toNat : Int) = a := by
  rw [BitVec.toNat_ofInt, Int.emod_eq_of_lt h0 (by exact_mod_cast h), Int.toNat_of_nonneg h0]

/-! ### One word of a canvas written (R43, R192) -/

/-- A write at an address given as an integer updates that address. -/
theorem Memory.updated_write_toNat (m : Memory) {a : Int} (h : 0 ≤ a) (v : Word) :
    m.Updated (m.write a.toNat v) (fun b => (b : Int) = a) v := by
  have haddr : (fun b : Nat => (b : Int) = a) = fun b => b = a.toNat := by
    funext b
    exact propext (by omega)
  rw [haddr]
  exact m.updated_write a.toNat v

theorem Memory.Writes.updated {m m' : Memory} {p : Nat → Prop} [DecidablePred p] {v : Word}
    (h : m.Writes m' fun a => if p a then v else m.read a) : m.Updated m' p v :=
  ⟨h.words, h.powerOn, fun a ha => by rw [h.read, if_pos ha], fun a ha => by rw [h.read, if_neg ha]⟩

theorem fromPixel_eq_ofNat (x y : Nat) : fromPixel x y = BitVec.ofNat 64 (2 ^ bitOf x y) := by
  rw [← toNat_fromPixel, BitVec.ofNat_toNat, BitVec.setWidth_eq]

section
variable {s : State} {c : Canvas} {x y : Int}

theorem State.plot_of_inPixels (hw : c.WF) (hf : c.Fits s.mem.words) (hp : c.InPixels x y) :
    s.plot c x y = .ok (true, s.setMem (s.mem.write (c.cellAddr (x / 8) (y / 8)).toNat
      (s.mem.read (c.cellAddr (x / 8) (y / 8)).toNat ||| fromPixel (x % 8).toNat (y % 8).toNat))) := by
  obtain ⟨b, t, h⟩ := State.plot_ok s hw hf x y
  rcases State.plot_eq_ok h with ⟨-, rfl, -, rfl⟩ | ⟨hout, -, -⟩
  · exact h
  · exact absurd hp hout

theorem State.plot_of_not_inPixels (hp : ¬c.InPixels x y) : s.plot c x y = .ok (false, s) := if_neg hp

end

/-! ### Null canvases (R28, R39) -/

section
variable {c : Canvas}

theorem toInt_eq_zero_iff (v : I32) : v.toInt = 0 ↔ v = 0 := BitVec.toInt_inj (y := 0)

theorem Canvas.isNull_iff (hw : c.WF) : c.IsNull ↔ c.v = false ∨ c.width = 0 ∨ c.height = 0 := by
  obtain ⟨hwidth, hheight, -, -⟩ := hw
  rw [Canvas.IsNull, hwidth.ge_iff_eq', hheight.ge_iff_eq', toInt_eq_zero_iff, toInt_eq_zero_iff]

theorem Canvas.sizes_eq_zero (hw : c.WF) (hv : c.v = false) : c.width = 0 ∧ c.height = 0 := by
  obtain ⟨-, -, -, hsizes⟩ := hw
  rw [← toInt_eq_zero_iff, ← toInt_eq_zero_iff]
  exact hsizes.mp hv

/-- A valid descriptor with a cell. -/
theorem Canvas.wf_of_pos (hv : c.v = true) (hwidth : 0 < c.width.toInt) (hheight : 0 < c.height.toInt)
    (hstride : 0 ≤ c.stride.toInt) : c.WF ∧ ¬c.IsNull := by
  refine ⟨⟨hwidth.le, hheight.le, hstride, ?_⟩, ?_⟩
  · simp [hv, hwidth.ne']
  · simp [hv, hwidth, hheight]

end

theorem State.reset_C_zero : State.reset.C 0 = Screen.canvas ⟨Config.screenW, Config.screenH⟩ := rfl

theorem State.reset_C_one : State.reset.C 1 = Canvas.null := rfl

theorem toInt_ofNat_of_le {n : Nat} (h : n ≤ 2 ^ 31 - 1) : (BitVec.ofNat 32 n).toInt = n := by
  rw [← BitVec.ofInt_natCast]
  exact toInt_ofInt_of_inI32 (by omega)

/-- A Screen of a legal size is a well-formed canvas with a cell. -/
theorem Screen.canvas_wf {sc : Screen} (hw : 1 ≤ sc.width ∧ sc.width ≤ 2 ^ 31 - 1)
    (hh : 1 ≤ sc.height ∧ sc.height ≤ 2 ^ 31 - 1) : sc.canvas.WF ∧ ¬sc.canvas.IsNull := by
  have hwidth : sc.canvas.width.toInt = sc.width := toInt_ofNat_of_le hw.2
  have hheight : sc.canvas.height.toInt = sc.height := toInt_ofNat_of_le hh.2
  have hstride : sc.canvas.stride.toInt = sc.width := toInt_ofNat_of_le hw.2
  exact Canvas.wf_of_pos rfl (by omega) (by omega) (by omega)

theorem exec_cisnull_of_isNull {cs : CReg} {s : State} (hw : (s.C cs).WF) (h : (s.C cs).IsNull) :
    exec (.cisnull cs) s = .next (s.setT true) := by
  rw [exec_of_require (exec_cisnull cs s) hw, decide_eq_true h, complete_ok]

theorem exec_cisnull_of_not_isNull {cs : CReg} {s : State} (hw : (s.C cs).WF) (h : ¬(s.C cs).IsNull) :
    exec (.cisnull cs) s = .next (s.setT false) := by
  rw [exec_of_require (exec_cisnull cs s) hw, decide_eq_false h, complete_ok]

/-! ### The view of a rectangle of a canvas (R190) -/

/-- The rectangle has a cell and lies in the cells of the canvas. -/
abbrev Canvas.Contains (c : Canvas) (q : IRect) : Prop :=
  (0 ≤ q.x ∧ 0 < q.w ∧ q.x + q.w ≤ c.width.toInt) ∧ (0 ≤ q.y ∧ 0 < q.h ∧ q.y + q.h ≤ c.height.toInt)

/-- The descriptor that CCROP writes for the rectangle. -/
def Canvas.view (c : Canvas) (q : IRect) : Canvas :=
  { v := true, base := BitVec.ofInt 32 (c.cellAddr q.x q.y), width := BitVec.ofInt 32 q.w,
    height := BitVec.ofInt 32 q.h, stride := c.stride }

section
variable {q r : IRect} {W H : Int}

/-- What a true result of `Clip` says: the sums fit, some cell is common, and the rectangle is the clamped one. -/
theorem clip_eq_true (h : clip q W H = .ok (true, r)) :
    (InI32 (q.x + q.w) ∧ InI32 (q.y + q.h)) ∧ (∃ i j, CommonCell q W H i j) ∧ r = clamped (absNormal q) W H := by
  by_cases hsum : InI32 (q.x + q.w) ∧ InI32 (q.y + q.h)
  case neg => rw [clip_of_overflow hsum] at h; cases h
  by_cases hc : ∃ i j, CommonCell q W H i j
  case neg => rw [clip_of_not_common hsum hc] at h; cases h
  rw [clip_of_common hsum hc] at h
  cases h
  exact ⟨hsum, hc, rfl⟩

theorem Canvas.contains_of_clip {c : Canvas} (h : clip q c.width.toInt c.height.toInt = .ok (true, r)) :
    c.Contains r := by
  obtain ⟨-, hc, rfl⟩ := clip_eq_true h
  obtain ⟨-, hx, hy, hw, -, hh, -, hxW, hyH⟩ := clamped_absNormal_spec hc
  exact ⟨⟨hx, hw, hxW⟩, hy, hh, hyH⟩

/-- A null canvas has no cell to meet a rectangle. -/
theorem clip_of_isNull {c : Canvas} (hw : c.WF) (hn : c.IsNull) (h : InI32 (q.x + q.w) ∧ InI32 (q.y + q.h)) :
    clip q c.width.toInt c.height.toInt = .ok (false, absNormal q) := by
  refine clip_of_not_common h ?_
  rintro ⟨i, j, -, -, hcell⟩
  exact Canvas.not_isNull_of_inCells hw hcell hn

end

section
variable {c : Canvas} {q : IRect}

theorem Canvas.inCells_of_contains (hq : c.Contains q) {i j : Int} (hi : 0 ≤ i ∧ i < q.w) (hj : 0 ≤ j ∧ j < q.h) :
    c.InCells (q.x + i) (q.y + j) := by
  omega

theorem Canvas.not_isNull_of_contains (hw : c.WF) (hq : c.Contains q) : ¬c.IsNull :=
  Canvas.not_isNull_of_inCells hw (Canvas.inCells_of_contains (i := 0) (j := 0) hq (by omega) (by omega))

theorem Canvas.view_width (hq : c.Contains q) : (c.view q).width.toInt = q.w := by
  have hwidth := inI32_toInt c.width
  exact toInt_ofInt_of_inI32 (by omega)

theorem Canvas.view_height (hq : c.Contains q) : (c.view q).height.toInt = q.h := by
  have hheight := inI32_toInt c.height
  exact toInt_ofInt_of_inI32 (by omega)

theorem Canvas.view_base (hw : c.WF) (hq : c.Contains q) (hb : c.cellAddr q.x q.y < 2 ^ 32) :
    ((c.view q).base.toNat : Int) = c.cellAddr q.x q.y :=
  toNat_ofInt_of_bounds (Canvas.cellAddr_bounds hw (by omega)).1 hb

theorem Canvas.view_wf (hw : c.WF) (hq : c.Contains q) : (c.view q).WF ∧ ¬(c.view q).IsNull := by
  obtain ⟨-, -, hstride, -⟩ := hw
  exact Canvas.wf_of_pos rfl (by rw [Canvas.view_width hq]; omega) (by rw [Canvas.view_height hq]; omega) hstride

/-- Each cell of the view is a cell of its parent. -/
theorem Canvas.inCells_of_view (hq : c.Contains q) {i j : Int} (h : (c.view q).InCells i j) :
    c.InCells (q.x + i) (q.y + j) := by
  rw [Canvas.InCells, Canvas.view_width hq, Canvas.view_height hq] at h
  exact Canvas.inCells_of_contains hq h.1 h.2

/-- Base and stride carry the view's cells to the words of the parent's. -/
theorem Canvas.cellAddr_view (hw : c.WF) (hq : c.Contains q) (hb : c.cellAddr q.x q.y < 2 ^ 32) (i j : Int) :
    (c.view q).cellAddr i j = c.cellAddr (q.x + i) (q.y + j) := by
  have hs : (c.view q).stride = c.stride := rfl
  rw [Canvas.cellAddr, Canvas.view_base hw hq hb, hs, Canvas.cellAddr, Canvas.cellAddr]
  ring

/-- The view's last cell is a cell of the parent, and so lies in MEM. -/
theorem Canvas.view_fits (hw : c.WF) (hq : c.Contains q) (hb : c.cellAddr q.x q.y < 2 ^ 32) {words : Nat}
    (hf : c.Fits words) : (c.view q).Fits words := by
  have hlast : (c.view q).InCells ((c.view q).width.toInt - 1) ((c.view q).height.toInt - 1) := by
    rw [Canvas.InCells, Canvas.view_width hq, Canvas.view_height hq]
    omega
  rw [Canvas.fits_iff_lastCell (Canvas.view_wf hw hq).2, Canvas.cellAddr_view hw hq hb]
  exact (Canvas.cellAddr_inMem hw hf (Canvas.inCells_of_view hq hlast)).2

end

/-! ### CCROP (R190) -/

section
variable {cd cs : CReg} {rr : RReg} {s : State}

theorem ccrop_faults_of_not_wf (hw : ¬(s.C cs).WF) : Faults (.ccrop cd cs rr) s .badCanvas := by
  rw [Faults, exec, execCcrop, require_neg hw, complete_error]

theorem ccrop_faults_of_clip_error (hw : (s.C cs).WF) {k : Cause}
    (h : clip (s.rect rr) (s.C cs).width.toInt (s.C cs).height.toInt = .error k) : Faults (.ccrop cd cs rr) s k := by
  rw [Faults, exec, execCcrop, require_pos hw, h, complete_error]

theorem exec_ccrop_of_clip_false (hw : (s.C cs).WF) {r : IRect}
    (h : clip (s.rect rr) (s.C cs).width.toInt (s.C cs).height.toInt = .ok (false, r)) :
    exec (.ccrop cd cs rr) s = .next ((s.setC cd Canvas.null).setT false) := by
  rw [exec, execCcrop, require_pos hw, h, complete_ok]

theorem exec_ccrop_of_clip_true (hw : (s.C cs).WF) {r : IRect}
    (h : clip (s.rect rr) (s.C cs).width.toInt (s.C cs).height.toInt = .ok (true, r)) :
    exec (.ccrop cd cs rr) s = complete (encode (.ccrop cd cs rr)) s
      (require ((s.C cs).cellAddr r.x r.y < 2 ^ 32) .intOverflow <|
       .ok ((s.setC cd ((s.C cs).view r)).setT true)) := by
  rw [exec, execCcrop, require_pos hw, h]
  rfl

end

end Sys2Proof.Machine

namespace Sys2Proof.Proofs
open Sys2Proof.Machine

/-- Settles O56: the overflow and the empty intersection are `Clip`'s; a true result is a rectangle of the canvas, whose
view is the child. -/
theorem ccropMakesAViewOfTheSameWords : Obligations.CcropMakesAViewOfTheSameWords := by
  intro cd cs rr s c q W H
  refine ⟨hasWord_encode rfl, ccrop_faults_of_not_wf,
    fun hw hsum => ccrop_faults_of_clip_error hw (clip_of_overflow hsum), fun r hw => exec_ccrop_of_clip_false hw,
    fun hw hx hy hn => ⟨_, clip_of_isNull hw hn ⟨hx, hy⟩⟩, ?overflow, ?view⟩
  case overflow =>
    intro r hw hclip hbase
    exact faults_of_not_require (exec_ccrop_of_clip_true hw hclip) hbase.not_gt
  case view =>
    intro r hw hclip hbase
    have hq : c.Contains r := Canvas.contains_of_clip hclip
    have hv : c.v = true := by
      have hn := Canvas.not_isNull_of_contains hw hq
      simpa using fun h => hn (.inl h)
    exact ⟨c.view r, exec_of_require (exec_ccrop_of_clip_true hw hclip) hbase, rfl, Canvas.view_base hw hq hbase,
      Canvas.view_width hq, Canvas.view_height hq, rfl, hv, (Canvas.view_wf hw hq).1, Canvas.view_fits hw hq hbase,
      fun i j h => ⟨Canvas.inCells_of_view hq h, Canvas.cellAddr_view hw hq hbase i j⟩⟩

/-- Settles O52: past its two tests the address is in the bounds of a cell's, so RES holds it exactly. -/
theorem caddrReturnsTheCellAddress : Obligations.CaddrReturnsTheCellAddress := by
  intro cs rr s c p
  have hexec := exec_caddr cs rr s
  refine ⟨hasWord_encode rfl, faults_of_not_require hexec,
    fun hw hout => faults_of_not_require (exec_of_require hexec hw) (not_not_intro hout), fun hw hn hi => ?address⟩
  case address =>
    obtain ⟨hlo, hhi⟩ := Canvas.cellAddr_bounds hw hi
    have hexact : ((BitVec.ofInt 64 (c.cellAddr p.x p.y)).toNat : Int) = c.cellAddr p.x p.y :=
      toNat_ofInt_of_bounds hlo (by omega)
    refine ⟨BitVec.ofInt 64 (c.cellAddr p.x p.y), ?_, hexact, hexact.trans_le hhi⟩
    rw [hexact]
    exact exec_of_require (exec_of_require hexec hw) (Canvas.reaches_iff.mpr ⟨hn, hi⟩)

/-- Settles O53: the three tests in their order; past them the cell is a word of MEM. -/
theorem cldgAndCstgAccessTheCell : Obligations.CldgAndCstgAccessTheCell := by
  intro g cs rr s c p a
  have hload := exec_cldg g cs rr s
  have hstore := exec_cstg g cs rr s
  refine ⟨hasWord_encode rfl, hasWord_encode rfl,
    fun hw => ⟨faults_of_not_require hload hw, faults_of_not_require hstore hw⟩, fun hw hout => ?bounds,
    fun hw hn hi hf => ?range, fun hw hn hi hf => ?cell⟩
  case bounds =>
    have hr : ¬c.Reaches p.x p.y := not_not_intro hout
    exact ⟨faults_of_not_require (exec_of_require hload hw) hr, faults_of_not_require (exec_of_require hstore hw) hr⟩
  case range =>
    have hr : c.Reaches p.x p.y := Canvas.reaches_iff.mpr ⟨hn, hi⟩
    exact ⟨faults_of_not_require (exec_of_require (exec_of_require hload hw) hr) hf,
      faults_of_not_require (exec_of_require (exec_of_require hstore hw) hr) hf⟩
  case cell =>
    have hr : c.Reaches p.x p.y := Canvas.reaches_iff.mpr ⟨hn, hi⟩
    have ha := Canvas.cellAddr_inMem hw hf hi
    refine ⟨ha, ?_, s.mem.write a.toNat (s.G g), ?_, s.mem.updated_write_toNat ha.1 _⟩
    · rw [exec_of_require (exec_of_require (exec_of_require hload hw) hr) hf, State.loadWord_ok s ha]
      rfl
    · rw [exec_of_require (exec_of_require (exec_of_require hstore hw) hr) hf, State.storeWord_ok s ha, complete_ok]

/-- Settles O54: the two tests in their order; past them the branch of R185 and R186 decides. -/
theorem catAndCputAreBoundsChecked : Obligations.CatAndCputAreBoundsChecked := by
  intro g cs rr s c p a
  have hload := exec_cat g cs rr s
  have hstore := exec_cput g cs rr s
  refine ⟨hasWord_encode rfl, hasWord_encode rfl,
    fun hw => ⟨faults_of_not_require hload hw, faults_of_not_require hstore hw⟩,
    fun hw hf => ⟨faults_of_not_require (exec_of_require hload hw) hf,
      faults_of_not_require (exec_of_require hstore hw) hf⟩, fun hw hf hout => ⟨?loadOut, ?storeOut⟩,
    fun hw hf hn hi => ?cell⟩
  case loadOut => rw [exec_of_require (exec_of_require hload hw) hf, if_pos hout, complete_ok]
  case storeOut => rw [exec_of_require (exec_of_require hstore hw) hf, if_pos hout, complete_ok]
  case cell =>
    have hr : c.Reaches p.x p.y := Canvas.reaches_iff.mpr ⟨hn, hi⟩
    have ha := Canvas.cellAddr_inMem hw hf hi
    refine ⟨ha, ?_, s.mem.write a.toNat (s.G g), ?_, s.mem.updated_write_toNat ha.1 _⟩
    · rw [exec_of_require (exec_of_require hload hw) hf, if_neg hr, State.loadWord_ok s ha]
      rfl
    · rw [exec_of_require (exec_of_require hstore hw) hf, if_neg hr, State.storeWord_ok s ha]
      rfl

/-- Settles O55: the three ways to be null, and the two canvases of the reset state. -/
theorem cisnullTestsTheCanvas : Obligations.CisnullTestsTheCanvas := by
  refine ⟨?canvas, ?nullc, ?screen⟩
  case canvas =>
    intro cs s c
    exact ⟨hasWord_encode rfl, faults_of_not_require (exec_cisnull cs s),
      fun hw h => exec_cisnull_of_isNull hw ((Canvas.isNull_iff hw).mpr h),
      fun hw h => exec_cisnull_of_not_isNull hw (mt (Canvas.isNull_iff hw).mp h), Canvas.sizes_eq_zero⟩
  case nullc => exact exec_cisnull_of_isNull (by rw [State.reset_C_one]; decide) (.inl rfl)
  case screen =>
    obtain ⟨-, hwidth, hheight, -⟩ := Config.params_legal
    obtain ⟨hw, hn⟩ := Screen.canvas_wf (sc := ⟨Config.screenW, Config.screenH⟩) hwidth hheight
    rw [← State.reset_C_zero] at hw hn
    exact exec_cisnull_of_not_isNull hw hn

/-- Settles O57: every listed address is that of a cell, so all the stores complete and hit the cells alone. -/
theorem cfillFillsEveryCell : Obligations.CfillFillsEveryCell := by
  intro cs gs s c
  have hexec := exec_cfill gs cs s
  refine ⟨hasWord_encode rfl, faults_of_not_require hexec,
    fun hw hf => faults_of_not_require (exec_of_require hexec hw) hf, fun hw hf => ?fill⟩
  case fill =>
    have hin : ∀ a ∈ c.cellAddrs, 0 ≤ a ∧ a < s.mem.words := by
      intro a ha
      obtain ⟨x, y, hi, rfl⟩ := Canvas.mem_cellAddrs.mp ha
      exact Canvas.cellAddr_inMem hw hf hi
    obtain ⟨t, ht⟩ := s.storeAll_ok (s.G gs) hin
    obtain ⟨m, rfl, hm⟩ := State.storeAll_eq_ok ht
    refine ⟨m, ?_, ?_⟩
    · rw [exec_of_require (exec_of_require hexec hw) hf, ht, complete_ok]
    · simpa only [Canvas.mem_cellAddrs] using hm.updated

/-- Settles O58: past the two tests the command is `Plot`, whose result is T. -/
theorem cplotSetsOnePixel : Obligations.CplotSetsOnePixel := by
  intro cs rr s c p a
  have hexec := exec_cplot cs rr s
  refine ⟨hasWord_encode rfl, faults_of_not_require hexec,
    fun hw hf => faults_of_not_require (exec_of_require hexec hw) hf, fun hw hf hout => ?outside, fun hw hf hp => ?pixel⟩
  case outside =>
    rw [exec_of_require (exec_of_require hexec hw) hf, State.plot_of_not_inPixels hout]
    rfl
  case pixel =>
    have ha := Canvas.cellAddr_inMem hw hf (Canvas.inCells_of_inPixels hp)
    have hbit : fromPixel (p.x % 8).toNat (p.y % 8).toNat =
        BitVec.ofNat 64 (2 ^ (63 - (p.x % 8).toNat - 8 * (p.y % 8).toNat)) := fromPixel_eq_ofNat _ _
    refine ⟨ha, _, ?_, s.mem.updated_write_toNat ha.1 _⟩
    rw [exec_of_require (exec_of_require hexec hw) hf, State.plot_of_inPixels hw hf hp, hbit]
    rfl

/-- Settles O27: the row of opcode 0 selects the word 0 alone. -/
theorem nopChangesNothing : Obligations.NopChangesNothing := by
  refine ⟨hasWord_encode rfl, exec_nop, fun s w hf hop hne => perform_cmd_of_not_decode hf ?_⟩
  have hrow : (⟨"NOP", 0xFFFFFFFF, 0x00000000⟩ : OpRow) ∈ opcodeTable := by decide
  have hmask : w &&& 0xFFFFFFFF = w := BitVec.and_allOnes
  exact decode_ne_ok_of_masked_ne hrow hop (hmask.trans_ne hne)

end Sys2Proof.Proofs
end

section
/-! PROOFS. Taking a fault and the faulted block (spec/60_exceptions.md R202 to R206): what a transaction does while
FAULT = 1, that a command which completes leaves the fault record as it was, and the obligations that follow. -/

namespace Sys2Proof.Machine

/-! ### Transactions while FAULT = 1 (R206) -/

section
variable {s : State} (hf : s.fault = true)
include hf

/-- A faulted block discards a command word without decoding it. -/
theorem perform_cmd_of_faulted (w : CmdWord) : perform (.cmd w) s = .next s := by
  rw [perform, runCmd, if_pos hf]

theorem perform_regRead_of_unmapped_of_faulted {n : BitVec 8} (hn : hostReg n = none) :
    perform (.regRead n) s = .next (s.answer 0) := by
  rw [perform_regRead_of_unmapped hn, State.raiseUnlessFaulted_of_faulted hf]

theorem perform_memRead_of_outside_of_faulted {a : BitVec 32} (ha : s.mem.words ≤ a.toNat) :
    perform (.memRead a) s = .next (s.answer 0) := by
  rw [perform_memRead_of_outside ha, State.raiseUnlessFaulted_of_faulted hf]

/-- All that a transaction other than `Reset` can do to a faulted block: nothing, or answer the host. -/
theorem perform_of_faulted {x : Transaction} (hx : x ≠ .reset) :
    perform x s = .next s ∨ ∃ v, perform x s = .next (s.answer v) := by
  cases x with
  | reset => exact absurd rfl hx
  | cmd w => exact .inl (perform_cmd_of_faulted hf w)
  | regRead n =>
    cases hn : hostReg n with
    | none => exact .inr ⟨_, perform_regRead_of_unmapped_of_faulted hf hn⟩
    | some q => exact .inr ⟨_, perform_regRead_of_mapped hn s⟩
  | regWrite n v => exact .inl (perform_regWrite_of_faulted hf n v)
  | memRead a =>
    rcases Nat.lt_or_ge a.toNat s.mem.words with ha | ha
    · exact .inr ⟨_, perform_memRead_of_inside ha⟩
    · exact .inr ⟨_, perform_memRead_of_outside_of_faulted hf ha⟩
  | memWrite a v => exact .inl (perform_memWrite_of_faulted hf a v)

theorem fault_of_perform_of_faulted {x : Transaction} (hx : x ≠ .reset) {t : State} (h : perform x s = .next t) :
    t.fault = true := by
  rcases perform_of_faulted hf hx with hp | ⟨v, hp⟩
  all_goals
    obtain rfl := Host.Outcome.next.inj (hp.symm.trans h)
    exact hf

end

theorem perform_reset (s : State) : perform .reset s = .next s.resetBlock := rfl

/-! ### A completed effect leaves the fault record (R204, R205) -/

/-- FAULT, CAUSE and FINFO: all that taking a fault writes (R202). -/
def State.faultRecord (s : State) : Bool × BitVec 8 × BitVec 32 × BitVec 2 := (s.fault, s.cause, s.info, s.src)

theorem State.fault_eq_of_faultRecord_eq {s t : State} (h : t.faultRecord = s.faultRecord) : t.fault = s.fault :=
  congrArg Prod.fst h

/-- The effect of a command begun in `s`, where it completes, leaves the fault record of `s`. -/
def KeepsFaultRecord (s : State) (e : Effect) : Prop := ∀ t, e = .ok t → t.faultRecord = s.faultRecord

namespace KeepsFaultRecord
variable {s : State}

theorem ok {t : State} (h : t.faultRecord = s.faultRecord) : KeepsFaultRecord s (.ok t) := by
  rintro _ ⟨⟩
  exact h

theorem error (k : Cause) : KeepsFaultRecord s (.error k) := nofun

theorem require {p : Prop} [Decidable p] {k : Cause} {e : Effect} (h : KeepsFaultRecord s e) :
    KeepsFaultRecord s (Machine.require p k e) :=
  fun t ht => h t (require_eq_ok.mp ht).2

theorem ite {p : Prop} [Decidable p] {e e' : Effect} (h : KeepsFaultRecord s e) (h' : KeepsFaultRecord s e') :
    KeepsFaultRecord s (if p then e else e') := by
  split
  · exact h
  · exact h'

/-- What follows an access of MEM: the access faults, or `f` makes the state of its result. -/
theorem map {α : Type} {r : Except Cause α} {f : α → State}
    (h : ∀ a, r = .ok a → (f a).faultRecord = s.faultRecord) : KeepsFaultRecord s (r.map f) := by
  cases r with
  | ok a => exact ok (h a rfl)
  | error k => exact error k

theorem shiftEffect {fn : Word → Nat → Word} {gd gs : GReg} {n : Nibble} :
    KeepsFaultRecord s (shiftEffect fn gd gs n s) := require (ok rfl)

theorem putRect {rd : RReg} {q : IRect} : KeepsFaultRecord s (s.putRect rd q) := require (ok rfl)

theorem storeWord {a : Int} {v : Word} : KeepsFaultRecord s (s.storeWord a v) := by
  intro t ht
  obtain ⟨-, rfl⟩ := State.storeWord_eq_ok ht
  rfl

theorem storeAll {v : Word} {as : List Int} : KeepsFaultRecord s (s.storeAll v as) := by
  intro t ht
  obtain ⟨m, rfl, -⟩ := State.storeAll_eq_ok ht
  rfl

theorem plotAll {c : Canvas} {ps : List (Int × Int)} : KeepsFaultRecord s (s.plotAll c ps) := by
  intro t ht
  obtain ⟨m, rfl, -⟩ := State.plotAll_eq_ok ht
  rfl

end KeepsFaultRecord

theorem State.faultRecord_of_plot {s t : State} {c : Canvas} {x y : Int} {b : Bool} (h : s.plot c x y = .ok (b, t)) :
    t.faultRecord = s.faultRecord := by
  rcases State.plot_eq_ok h with ⟨-, -, -, rfl⟩ | ⟨-, -, rfl⟩
  · rfl
  · rfl

/-! ### What a command can do to the fault record -/

/-- The command's meaning is an effect that, where it completes, leaves the fault record. -/
def CommandKeepsFaultRecord (i : Instr) (s : State) : Prop :=
  ∃ e, exec i s = complete (encode i) s e ∧ KeepsFaultRecord s e

theorem commandKeepsFaultRecord_of_next {i : Instr} {s t : State} (h : exec i s = .next t)
    (ht : t.faultRecord = s.faultRecord) : CommandKeepsFaultRecord i s :=
  ⟨.ok t, h, .ok ht⟩

theorem commandKeepsFaultRecord_rclip (rd rs rb : RReg) (s : State) :
    CommandKeepsFaultRecord (.rclip rd rs rb) s := by
  cases hclip : clip (s.rect rs) (s.rect rb).w (s.rect rb).h with
  | error k => exact ⟨.error k, rclip_faults_of_clip_error hclip, .error k⟩
  | ok r => exact commandKeepsFaultRecord_of_next (exec_rclip_of_clip_ok hclip) rfl

theorem commandKeepsFaultRecord_ccrop (cd cs : CReg) (rr : RReg) (s : State) :
    CommandKeepsFaultRecord (.ccrop cd cs rr) s := by
  by_cases hw : (s.C cs).WF
  case neg => exact ⟨.error .badCanvas, ccrop_faults_of_not_wf hw, .error _⟩
  case pos =>
    match hclip : clip (s.rect rr) (s.C cs).width.toInt (s.C cs).height.toInt with
    | .error k => exact ⟨.error k, ccrop_faults_of_clip_error hw hclip, .error k⟩
    | .ok (false, r) => exact commandKeepsFaultRecord_of_next (exec_ccrop_of_clip_false hw hclip) rfl
    | .ok (true, r) => exact ⟨_, exec_ccrop_of_clip_true hw hclip, .require (.ok rfl)⟩

/-- Each of the 45 commands, by the form of its effect. -/
theorem commandKeepsFaultRecord : ∀ (i : Instr) (s : State), CommandKeepsFaultRecord i s
  | .nop, _ => commandKeepsFaultRecord_of_next rfl rfl
  | .gmask .., _ | .glyph4 .., _ | .tallhalf2 .., _ | .widehalf2 .., _ | .gmov .., _ | .gflip .., _ | .gmirror .., _
  | .grot180 .., _ | .gtransp .., _ | .grot270 .., _ | .grot90 .., _ | .gmerge .., _ =>
    commandKeepsFaultRecord_of_next rfl rfl
  | .mtop _, _ | .mbot _, _ | .mleft _, _ | .mright _, _ | .gwidth _, _ | .gheight _, _ =>
    commandKeepsFaultRecord_of_next rfl rfl
  | .frompix .., _ | .pixval .., _ | .rowbyte .., _ => ⟨_, rfl, .require (.ok rfl)⟩
  | .lutrd .., _ => ⟨_, rfl, .require (.require (.ok rfl))⟩
  | .gshl .., _ | .gshr .., _ | .gshu .., _ | .gshd .., _ | .gcyl .., _ | .gcyr .., _ | .gcyu .., _ | .gcyd .., _ =>
    ⟨_, rfl, .shiftEffect⟩
  | .rnorm .., _ | .rtoabs .., _ | .rtoreg .., _ => ⟨_, rfl, .putRect⟩
  | .rclip rd rs rb, s => commandKeepsFaultRecord_rclip rd rs rb s
  | .caddr .., _ => ⟨_, rfl, .require (.require (.ok rfl))⟩
  | .cldg gd cs rr, s => ⟨_, exec_cldg gd cs rr s, .require (.require (.require (.map fun _ _ => rfl)))⟩
  | .cstg .., _ => ⟨_, rfl, .require (.require (.require .storeWord))⟩
  | .cat gd cs rr, s => ⟨_, exec_cat gd cs rr s, .require (.require (.ite (.ok rfl) (.map fun _ _ => rfl)))⟩
  | .cput gs cs rr, s =>
    ⟨_, exec_cput gs cs rr s, .require (.require (.ite (.ok rfl) (.map KeepsFaultRecord.storeWord)))⟩
  | .cisnull _, _ => ⟨_, rfl, .require (.ok rfl)⟩
  | .ccrop cd cs rr, s => commandKeepsFaultRecord_ccrop cd cs rr s
  | .cfill .., _ => ⟨_, rfl, .require (.require .storeAll)⟩
  | .cplot cs rr, s => ⟨_, exec_cplot cs rr s, .require (.require (.map fun _ => State.faultRecord_of_plot))⟩
  | .cline .., _ => ⟨_, rfl, .require (.require .plotAll)⟩

/-- A command takes a fault in the state it found, or leaves the fault record. -/
theorem exec_raises_or_keeps_faultRecord {i : Instr} {s t : State} (h : exec i s = .next t) :
    (∃ k, t = s.raise k .cmd (encode i)) ∨ t.faultRecord = s.faultRecord := by
  obtain ⟨e, hexec, hkeeps⟩ := commandKeepsFaultRecord i s
  rcases complete_eq_next.mp (hexec.symm.trans h) with hok | ⟨k, -, ht⟩
  · exact .inr (hkeeps t hok)
  · exact .inl ⟨k, ht⟩

/-! ### The transactions that take a fault (R202, R204) -/

@[simp] theorem State.writeReg_fault (s : State) (v : Word) (q : HostReg) : (s.writeReg v q).fault = s.fault := by
  cases q <;> rfl

section
variable {s t : State} (hf : s.fault = false) (ht : t.fault = true)
include hf ht

/-- A transaction whose end state has the FAULT of the state it found has taken no fault. -/
theorem not_perform_next_of_fault_eq {x : Transaction} {u : State} (hp : perform x s = .next u)
    (hu : u.fault = s.fault) : ¬perform x s = .next t := by
  intro h
  obtain rfl := Host.Outcome.next.inj (hp.symm.trans h)
  exact Bool.false_ne_true (hf.symm.trans (hu.symm.trans ht))

theorem eq_raise_of_perform_cmd {w : CmdWord} (h : perform (.cmd w) s = .next t) : ∃ k, t = s.raise k .cmd w := by
  by_cases hdecode : ∃ i, decode w = .ok i
  case neg =>
    rw [perform_cmd_of_not_decode hf (not_exists.mp hdecode)] at h
    exact ⟨.illegalCmd, (Host.Outcome.next.inj h).symm⟩
  case pos =>
    obtain ⟨i, hi⟩ := hdecode
    have hp : perform (.cmd w) s = exec i s := perform_cmd_of_decode hf hi
    obtain ⟨hword, -⟩ := encode_of_decode hi
    rcases exec_raises_or_keeps_faultRecord (hp.symm.trans h) with hraise | hkeeps
    · rwa [hword] at hraise
    · exact absurd h (not_perform_next_of_fault_eq hf ht h (State.fault_eq_of_faultRecord_eq hkeeps))

theorem eq_raise_of_perform_regRead {n : BitVec 8} (h : perform (.regRead n) s = .next t) :
    t = (s.raise .badReg .reg (n.setWidth 32)).answer 0 := by
  cases hn : hostReg n with
  | some q => exact absurd h (not_perform_next_of_fault_eq hf ht (perform_regRead_of_mapped hn s) rfl)
  | none =>
    rw [perform_regRead_of_unmapped hn, State.raiseUnlessFaulted_of_not_faulted hf] at h
    exact (Host.Outcome.next.inj h).symm

theorem eq_raise_of_perform_regWrite {n : BitVec 8} {v : Word} (h : perform (.regWrite n v) s = .next t) :
    t = s.raise .badReg .reg (n.setWidth 32) := by
  cases hn : hostReg n with
  | some q =>
    exact absurd h (not_perform_next_of_fault_eq hf ht (perform_regWrite_of_mapped hn hf v) (s.writeReg_fault v q))
  | none =>
    rw [perform_regWrite_of_unmapped hn, State.raiseUnlessFaulted_of_not_faulted hf] at h
    exact (Host.Outcome.next.inj h).symm

theorem eq_raise_of_perform_memRead {a : BitVec 32} (h : perform (.memRead a) s = .next t) :
    t = (s.raise .memRange .mem a).answer 0 := by
  rcases Nat.lt_or_ge a.toNat s.mem.words with ha | ha
  · exact absurd h (not_perform_next_of_fault_eq hf ht (perform_memRead_of_inside ha) rfl)
  · rw [perform_memRead_of_outside ha, State.raiseUnlessFaulted_of_not_faulted hf] at h
    exact (Host.Outcome.next.inj h).symm

theorem eq_raise_of_perform_memWrite {a : BitVec 32} {v : Word} (h : perform (.memWrite a v) s = .next t) :
    t = s.raise .memRange .mem a := by
  rcases Nat.lt_or_ge a.toNat s.mem.words with ha | ha
  · exact absurd h (not_perform_next_of_fault_eq hf ht (perform_memWrite_of_inside hf ha v) rfl)
  · rw [perform_memWrite_of_outside hf ha] at h
    exact (Host.Outcome.next.inj h).symm

end

end Sys2Proof.Machine

namespace Sys2Proof.Proofs
open Sys2Proof.Machine

/-- Settles O9: every transaction but `Reset` leaves a faulted block as it is or only answers, and `Reset` clears
FAULT. -/
theorem faultedBlockIsFrozen : Obligations.FaultedBlockIsFrozen := by
  intro s hf
  refine ⟨perform_cmd_of_faulted hf, perform_regWrite_of_faulted hf, perform_memWrite_of_faulted hf,
    fun n q hn => perform_regRead_of_mapped hn s, fun n => perform_regRead_of_unmapped_of_faulted hf,
    fun a => perform_memRead_of_inside, fun a => perform_memRead_of_outside_of_faulted hf,
    fun x t h => ⟨fun ht => ?onlyReset, ?reset⟩⟩
  case onlyReset =>
    by_contra hx
    exact Bool.false_ne_true (ht.symm.trans (fault_of_perform_of_faulted hf hx h))
  case reset =>
    rintro rfl
    obtain rfl := Host.Outcome.next.inj ((perform_reset s).symm.trans h)
    exact s.resetBlock_fault

/-- Settles O12: each kind of transaction either keeps FAULT = 0 or raises in the state it found. -/
theorem faultsArePrecise : Obligations.FaultsArePrecise := by
  intro x s t hf h ht
  cases x with
  | reset => exact not_perform_next_of_fault_eq hf ht (perform_reset s) (s.resetBlock_fault.trans hf.symm) h
  | cmd w => exact eq_raise_of_perform_cmd hf ht h
  | regRead n => exact eq_raise_of_perform_regRead hf ht h
  | regWrite n v => exact eq_raise_of_perform_regWrite hf ht h
  | memRead a => exact eq_raise_of_perform_memRead hf ht h
  | memWrite a v => exact eq_raise_of_perform_memWrite hf ht h

end Sys2Proof.Proofs
end

section
/-! PROOFS. The encoding as a whole (spec/30_encoding.md R61 to R67): a word that a row of the opcode table selects is a
command of that row, the printed words, and the obligations about `encode`, `decode` and the table. -/

namespace Sys2Proof

/-! ### What a field holds under its mask (R62, R67) -/

/-- A mask of all ones leaves only the field 0: the field is unused. -/
theorem nibble_and_ones {f : Nibble} : f &&& 15#4 = 0#4 ↔ f = 0#4 := by
  revert f; decide

/-- A mask of bit 3 leaves the indices of the glyph registers. -/
theorem nibble_and_bit3 {f : Nibble} : f &&& 8#4 = 0#4 ↔ ∃ g : GReg, f = nib g := by
  revert f; decide

/-- A mask of bits 3:2 leaves the indices of the rectangle and canvas registers. -/
theorem nibble_and_bits32 {f : Nibble} : f &&& 12#4 = 0#4 ↔ ∃ r : Fin 4, f = nib r := by
  revert f; decide

/-- Of the selectors that LUTRD's mask leaves only 7 is not legal. -/
theorem selector_lt_seven {f : Nibble} (hmask : f &&& 8#4 = 0#4) (hne : f ≠ 7) : f.toNat < 7 := by
  revert f; decide

section
variable {op : BitVec 8} {a b c d e f : Nibble}

/-- A mask holds field by field. -/
theorem fields_of_cmdWord_and_eq {m v : CmdWord} (h : cmdWord op a b c d e f &&& m = v) :
    op &&& opOf m = opOf v ∧ a &&& faOf m = faOf v ∧ b &&& fbOf m = fbOf v ∧ c &&& fcOf m = fcOf v ∧
    d &&& fdOf m = fdOf v ∧ e &&& feOf m = feOf v ∧ f &&& ffOf m = ffOf v := by
  rwa [← cmdWord_fields m, ← cmdWord_fields v, cmdWord_and, cmdWord_inj] at h

/-! ### A selected word is a command of its row -/

/-- Row by row: the mask leaves in each field just what the decoder accepts there. -/
theorem decodeFields_of_selects : ∀ row ∈ opcodeTable, row.selects (cmdWord op a b c d e f) = true →
    ∃ i, decodeFields op a b c d e f = .ok i ∧ i.mnemonic = row.mnemonic := by
  simp only [opcodeTable, opcodeTableA, opcodeTableB, opcodeTableC, List.forall_mem_append, List.forall_mem_cons,
    OpRow.selects_iff, faOf_cmdWord]
  refine ⟨⟨⟨?_, ?_, ?_, ?_, ?lutrd, ?_, ?_, ?_, ?_, ?_, ?_, ?_, ?_, ?_, ?_, nofun⟩,
    ?_, ?_, ?_, ?_, ?_, ?_, ?_, ?_, ?_, ?_, ?_, ?_, ?_, ?_, ?_, nofun⟩,
    ?_, ?_, ?_, ?_, ?_, ?_, ?_, ?_, ?_, ?_, ?_, ?_, ?_, ?_, ?_, nofun⟩
  all_goals
    rintro ⟨hmask, hseven⟩
    have hfields := fields_of_cmdWord_and_eq hmask
    clear hmask
  case lutrd =>
    obtain ⟨hop, ha, hb, hc, hd, -, -⟩ := hfields
    obtain rfl : op = 4 := BitVec.and_allOnes.symm.trans hop
    obtain rfl : b = 0 := nibble_and_ones.mp hb
    obtain rfl : c = 0 := nibble_and_ones.mp hc
    obtain rfl : d = 0 := nibble_and_ones.mp hd
    have hk : a.toNat < 7 := selector_lt_seven ha (hseven trivial)
    simp [decodeFields, unused, selector, hk, Instr.mnemonic]
  all_goals
    clear hseven
    obtain ⟨hop, hfields⟩ := hfields
    replace hop := BitVec.and_allOnes.symm.trans hop
    revert hop hfields
    simp only [opOf, faOf, fbOf, fcOf, fdOf, feOf, ffOf, BitVec.reduceExtractLsb', nibble_and_ones, nibble_and_bit3,
      nibble_and_bits32, forall_exists_index, and_imp]
    intros
    subst_vars
    simp [decodeFields, unused, Instr.mnemonic]

end

theorem decode_of_selects {row : OpRow} (hrow : row ∈ opcodeTable) {w : CmdWord} (h : row.selects w = true) :
    ∃ i, decode w = .ok i ∧ i.mnemonic = row.mnemonic := by
  rw [← cmdWord_fields w] at h
  exact decodeFields_of_selects row hrow h

/-- No two rows share a mnemonic. -/
theorem OpRow.eq_of_mnemonic_eq {p q : OpRow} (hp : p ∈ opcodeTable) (hq : q ∈ opcodeTable)
    (h : p.mnemonic = q.mnemonic) : p = q :=
  have hnodup : (opcodeTable.map OpRow.mnemonic).Nodup := by decide
  List.inj_on_of_nodup_map hnodup hp hq h

/-- R67: the row selects exactly the words of its commands. -/
theorem selects_iff_decode {row : OpRow} (hrow : row ∈ opcodeTable) {w : CmdWord} :
    row.selects w = true ↔ ∃ i, decode w = .ok i ∧ i.mnemonic = row.mnemonic := by
  refine ⟨decode_of_selects hrow, ?_⟩
  rintro ⟨i, hdecode, hname⟩
  obtain ⟨own, hown, hownName, hsel⟩ := exists_row_selects_of_decode hdecode
  obtain rfl := OpRow.eq_of_mnemonic_eq hown hrow (hownName.trans hname)
  exact hsel

theorem exists_row_mnemonic (i : Instr) : ∃ row ∈ opcodeTable, row.mnemonic = i.mnemonic := by
  by_cases hwf : i.wellFormed = true
  · obtain ⟨row, hrow, hname, -⟩ := rowSelects i hwf
    exact ⟨row, hrow, hname⟩
  · obtain ⟨k, n, rfl⟩ := eq_lutrd_of_not_wellFormed hwf
    exact ⟨⟨"LUTRD", 0xFF8FFF00, 0x04000000⟩, by decide, rfl⟩

/-- At most one row selects a word: the rows' opcodes differ. -/
theorem OpRow.eq_of_selects {p q : OpRow} (hp : p ∈ opcodeTable) (hq : q ∈ opcodeTable) {w : CmdWord}
    (hpw : p.selects w = true) (hqw : q.selects w = true) : p = q :=
  OpRow.eq_of_opOf_value_eq hp hq ((OpRow.opOf_eq_of_selects hp hpw).symm.trans (OpRow.opOf_eq_of_selects hq hqw))

end Sys2Proof

namespace Sys2Proof.Proofs
open Sys2Proof.Machine

/-- Settles O1: the row of the command's opcode accepts the fields that the encoder writes. -/
theorem decodeReadsBackEveryWellFormedCommand : Obligations.DecodeReadsBackEveryWellFormedCommand :=
  fun _ => decode_encode_of_wellFormed

/-- Settles O2: a row that accepts a word's fields is written back to the same fields. -/
theorem decodedWordsAreEncodings : Obligations.DecodedWordsAreEncodings :=
  fun _ _ => encode_of_decode

/-- Settles O3: a word is selected by the row of its command and by no other, and what a row selects decodes. -/
theorem opcodeTableSelectsExactlyTheCommands : Obligations.OpcodeTableSelectsExactlyTheCommands := by
  refine ⟨fun w => ?_, fun row hrow w => selects_iff_decode hrow, exists_row_mnemonic, by decide, by decide, by decide,
    fun w p hp q hq => OpRow.eq_of_selects hp hq⟩
  by_cases hdecode : ∃ i, decode w = .ok i
  · exact .inl hdecode
  · exact .inr fun s hf => perform_cmd_of_not_decode hf (not_exists.mp hdecode)

/-- Settles O4: each printed word is the encoding of its command, which decodes. -/
theorem exampleWordsDecode : Obligations.ExampleWordsDecode := by
  have hdecode {w : CmdWord} {i : Instr} (hwf : i.wellFormed = true) (hword : encode i = w) : decode w = .ok i :=
    hword ▸ decode_encode_of_wellFormed hwf
  exact ⟨hdecode rfl rfl, hdecode rfl rfl, hdecode rfl rfl, hdecode rfl rfl, hdecode rfl rfl, hdecode rfl rfl,
    hdecode rfl rfl, hdecode rfl rfl, hdecode rfl rfl, hdecode rfl rfl, hdecode rfl rfl, hdecode rfl rfl,
    hdecode rfl rfl, hdecode rfl rfl⟩

end Sys2Proof.Proofs
end

section
/-! PROOFS. Steps and the reset (spec/00_scope.md R14, spec/10_state.md R29 to R39, spec/70_reset_and_hazards.md R220 to
R222): what a step takes, that every transaction ends in a state, the registers after `Reset`, and the obligations. -/

namespace Sys2Proof.Machine

/-! ### A step (R14, R47) -/

theorem step_of_host_cons {s : State} {x : Transaction} {rest : List Transaction} (h : s.host = x :: rest) :
    step s = perform x (s.accept rest) := by
  rw [step, h]

theorem step_of_host_nil {s : State} (h : s.host = []) : step s = .next s := by
  rw [step, h]

/-- The word of a command, given to the host as a table word, is that command's transaction (log 6). -/
theorem withFetchWord_host (s : State) (w : CmdWord) : (s.withFetchWord 32 w.toNat).host = .cmd w :: s.host := by
  have hword : BitVec.ofNat 32 (w.toNat % 2 ^ 32) = w := by
    rw [Nat.mod_eq_of_lt w.isLt, BitVec.ofNat_toNat, BitVec.setWidth_eq]
  rw [State.withFetchWord, State.issueCmd, hword]

theorem withFetchWord_accept (s : State) (n w : Nat) (rest : List Transaction) :
    (s.withFetchWord n w).accept rest = s.accept rest := rfl

theorem exists_exec_next (i : Instr) (s : State) : ∃ t, exec i s = .next t := by
  obtain ⟨e, hexec, -⟩ := commandKeepsFaultRecord i s
  exact ⟨_, hexec⟩

theorem exists_perform_next (x : Transaction) (s : State) : ∃ t, perform x s = .next t := by
  cases x with
  | cmd w =>
    by_cases hf : s.fault = true
    · exact ⟨s, perform_cmd_of_faulted hf w⟩
    · replace hf : s.fault = false := Bool.eq_false_of_not_eq_true hf
      by_cases hdecode : ∃ i, decode w = .ok i
      · obtain ⟨i, hi⟩ := hdecode
        rw [perform_cmd_of_decode hf hi]
        exact exists_exec_next i s
      · exact ⟨_, perform_cmd_of_not_decode hf (not_exists.mp hdecode)⟩
  | _ => exact ⟨_, rfl⟩

/-! ### The registers after `Reset` (R39, R220) -/

section
variable (s : State)

theorem State.resetBlock_G (i : GReg) : s.resetBlock.G i = 0 := by
  rw [State.G, State.resetBlock_g]
  exact Vector.getElem_replicate _

theorem State.resetBlock_R (i : RReg) : s.resetBlock.R i = ⟨0, 0, 0, 0⟩ := by
  rw [State.R, State.resetBlock_r]
  exact Vector.getElem_replicate _

theorem State.resetBlock_C_zero : s.resetBlock.C 0 = s.screen.canvas := rfl

theorem State.resetBlock_C_of_ne_zero : ∀ i : CReg, i ≠ 0 → s.resetBlock.C i = Canvas.null
  | 0, h => absurd rfl h
  | 1, _ | 2, _ | 3, _ => rfl

end

/-- With no cause, no fault and no T the word STATUS is 0 (R29). -/
theorem State.statusWord_eq_zero {s : State} (hcause : s.cause = 0) (hfault : s.fault = false) (ht : s.t = false) :
    s.statusWord = 0 := by
  rw [State.statusWord, hcause, hfault, ht]
  rfl

theorem State.finfoWord_eq_zero {s : State} (hinfo : s.info = 0) (hsrc : s.src = 0) : s.finfoWord = 0 := by
  rw [State.finfoWord, hinfo, hsrc]
  rfl

/-! ### The state after the first `Reset` (R39, R221)

`Reset` there changes nothing, so the registers are, by definition, those that `Reset` leaves. -/

theorem State.reset_G (i : GReg) : State.reset.G i = 0 := State.resetBlock_G State.reset i

theorem State.reset_R (i : RReg) : State.reset.R i = ⟨0, 0, 0, 0⟩ := State.resetBlock_R State.reset i

theorem State.reset_C_of_ne_zero (i : CReg) (h : i ≠ 0) : State.reset.C i = Canvas.null :=
  State.resetBlock_C_of_ne_zero State.reset i h

/-- A Screen whose cells are no more than the words of MEM fits (R45). -/
theorem Screen.canvas_fits {sc : Screen} {words : Nat} (hparams : ParamsLegal words sc.width sc.height) :
    sc.canvas.Fits words := by
  obtain ⟨-, hw, hh, hprod⟩ := hparams
  have hlast : (((sc.height - 1) * sc.width + (sc.width - 1) : Nat) : Int) < words := by
    have hrows : (sc.height - 1) * sc.width + sc.width = sc.width * sc.height := by
      rw [← Nat.succ_mul, Nat.succ_eq_add_one, Nat.sub_add_cancel hh.1, Nat.mul_comm]
    omega
  have hwidth : sc.canvas.width.toInt = sc.width := toInt_ofNat_of_le hw.2
  have hheight : sc.canvas.height.toInt = sc.height := toInt_ofNat_of_le hh.2
  have hstride : sc.canvas.stride.toInt = sc.width := toInt_ofNat_of_le hw.2
  refine .inr ?_
  rw [hwidth, hheight, hstride]
  push_cast [hw.1, hh.1] at hlast
  simpa [Screen.canvas, add_assoc] using hlast

/-! ### The bits of STATUS and FINFO (R29, R32) -/

section
variable (s : State)

theorem State.statusWord_t : s.statusWord.getLsbD 0 = s.t :=
  (BitVec.getLsbD_append (i := 0)).trans (BitVec.getLsbD_ofBool ..)

theorem State.statusWord_fault : s.statusWord.getLsbD 1 = s.fault :=
  (BitVec.getLsbD_append (i := 1)).trans ((BitVec.getLsbD_append (i := 0)).trans (BitVec.getLsbD_ofBool ..))

/-- Above the two flags. -/
theorem State.statusWord_extract {start : Nat} (h : 2 ≤ start) (len : Nat) :
    s.statusWord.extractLsb' start len = (0#48 ++ s.cause ++ 0#6).extractLsb' (start - 2) len :=
  (BitVec.extractLsb'_append_eq_of_le (show 1 ≤ start by omega)).trans
    (BitVec.extractLsb'_append_eq_of_le (show 1 ≤ start - 1 by omega))

theorem State.statusWord_low_zeros : s.statusWord.extractLsb' 2 6 = 0 :=
  (s.statusWord_extract le_rfl 6).trans (BitVec.extractLsb'_append_eq_of_add_le le_rfl)

/-- Above the flags and the six zeros. -/
theorem State.statusWord_extract_high {start : Nat} (h : 8 ≤ start) (len : Nat) :
    s.statusWord.extractLsb' start len = (0#48 ++ s.cause).extractLsb' (start - 8) len :=
  (s.statusWord_extract (by omega) len).trans (BitVec.extractLsb'_append_eq_of_le (show 6 ≤ start - 2 by omega))

theorem State.statusWord_cause : s.statusWord.extractLsb' 8 8 = s.cause :=
  (s.statusWord_extract_high le_rfl 8).trans
    ((BitVec.extractLsb'_append_eq_of_add_le le_rfl).trans BitVec.extractLsb'_eq_self)

theorem State.statusWord_high_zeros : s.statusWord.extractLsb' 16 48 = 0 :=
  (s.statusWord_extract_high (by decide) 48).trans (BitVec.extractLsb'_append_eq_of_le le_rfl)

theorem State.finfoWord_info : s.finfoWord.extractLsb' 0 32 = s.info :=
  (BitVec.extractLsb'_append_eq_of_add_le le_rfl).trans BitVec.extractLsb'_eq_self

theorem State.finfoWord_src : s.finfoWord.extractLsb' 32 2 = s.src :=
  (BitVec.extractLsb'_append_eq_of_le (show 32 ≤ 32 from le_rfl)).trans
    ((BitVec.extractLsb'_append_eq_of_add_le le_rfl).trans BitVec.extractLsb'_eq_self)

theorem State.finfoWord_zeros : s.finfoWord.extractLsb' 34 30 = 0 :=
  (BitVec.extractLsb'_append_eq_of_le (show 32 ≤ 34 by decide)).trans (BitVec.extractLsb'_append_eq_of_le le_rfl)

end

/-- A mapped register that ignores a write ignores it whether FAULT is 0 or 1 (R36, R206). -/
theorem perform_regWrite_of_ignored {n : BitVec 8} {q : HostReg} (hn : hostReg n = some q) {s : State} {v : Word}
    (hq : s.writeReg v q = s) : perform (.regWrite n v) s = .next s := by
  cases hf : s.fault with
  | true => exact perform_regWrite_of_faulted hf n v
  | false => rw [perform_regWrite_of_mapped hn hf, hq]

end Sys2Proof.Machine

namespace Sys2Proof.Proofs
open Sys2Proof.Machine

/-- Settles O10: the registers of the state that `Reset` leaves, one kind at a time. -/
theorem resetPutsEveryRegisterAtItsResetValue : Obligations.ResetPutsEveryRegisterAtItsResetValue := by
  intro s
  exact ⟨s.resetBlock, perform_reset s, s.resetBlock_G, s.resetBlock_R, s.resetBlock_C_zero, s.resetBlock_C_of_ne_zero,
    rfl, rfl, rfl, rfl, rfl, rfl, State.statusWord_eq_zero rfl rfl rfl, State.finfoWord_eq_zero rfl rfl, rfl, rfl⟩

/-- Settles O7: the transaction taken is the head of the host's list, and its word is decoded or refused. -/
theorem stepRunsTheDecodedCommand : Obligations.StepRunsTheDecodedCommand := by
  refine ⟨fun s x rest => step_of_host_cons, fun s w rest i hhost hf hdecode => ?_, fun s w i hf hdecode => ?_,
    fun s w e hf hdecode => ?_, fun s => step_of_host_nil⟩
  · rw [step_of_host_cons hhost, perform_cmd_of_decode (s := s.accept rest) hf hdecode]
  · rw [step_of_host_cons (withFetchWord_host s w), withFetchWord_accept,
      perform_cmd_of_decode (s := s.accept s.host) hf hdecode]
  · exact perform_cmd_of_not_decode hf (by simp [hdecode])

/-- Settles O8: a command by its effect, any other transaction by its equation, and an idle step by its own state. -/
theorem everyTransactionYieldsAState : Obligations.EveryTransactionYieldsAState := by
  refine ⟨exists_exec_next, exists_perform_next, fun s => ?_⟩
  cases hhost : s.host with
  | nil => exact ⟨s, step_of_host_nil hhost⟩
  | cons x rest =>
    rw [step_of_host_cons hhost]
    exact exists_perform_next x _

/-- Settles O11: the registers are those of `Reset`, and the Screen of legal parameters fits. -/
theorem stateAfterTheFirstReset : Obligations.StateAfterTheFirstReset := by
  obtain ⟨hwords, hwidth, hheight, hprod⟩ := Config.params_legal
  obtain ⟨hwf, hnull⟩ := Screen.canvas_wf (sc := ⟨Config.screenW, Config.screenH⟩) hwidth hheight
  have hfits := Screen.canvas_fits (sc := ⟨Config.screenW, Config.screenH⟩) ⟨hwords, hwidth, hheight, hprod⟩
  exact ⟨State.reset_G, State.reset_R, rfl, rfl, toInt_ofNat_of_le hwidth.2, toInt_ofNat_of_le hheight.2,
    toInt_ofNat_of_le hwidth.2, State.reset_C_of_ne_zero, State.statusWord_eq_zero rfl rfl rfl, rfl,
    State.finfoWord_eq_zero rfl rfl, rfl, fun _ => rfl, Config.params_legal, hwf, hnull, hfits, rfl, rfl⟩

/-- Settles O15: nothing is listed in MEM, the fault record is 0 and the parameters are legal. -/
theorem resetStateIsGood : Obligations.ResetStateIsGood :=
  ⟨⟨Config.params_legal, Memory.WF_nil _ _, ⟨rfl, rfl, rfl⟩, Nat.zero_le _⟩, rfl⟩

/-- Settles O20: the parts of each word in order, and the three registers that ignore a write. -/
theorem statusAndFinfoLayout : Obligations.StatusAndFinfoLayout := fun s =>
  ⟨s.statusWord_t, s.statusWord_fault, s.statusWord_low_zeros, s.statusWord_cause, s.statusWord_high_zeros,
    s.finfoWord_info, s.finfoWord_src, s.finfoWord_zeros, fun _ =>
      ⟨perform_regWrite_of_ignored hostReg_status rfl, perform_regWrite_of_ignored hostReg_res rfl,
        perform_regWrite_of_ignored hostReg_finfo rfl⟩⟩

end Sys2Proof.Proofs
end

section
/-! PROOFS. The footprint of a command (`Instr.footprint`; spec/00_scope.md R12, spec/10_state.md R30 and R31,
spec/20_memory.md R46, spec/60_exceptions.md R201): each of the 45 commands raises a cause of its footprint or ends within
it, said once, and the obligations that follow, the invariant among them. -/

namespace Sys2Proof.Machine

/-- The state `t`, in which a command of footprint `f` begun in `s` completes, differs from `s` only where `f` allows; RES is
kept within the largest address that a cell of a canvas can have (R182). -/
structure State.Within (s : State) (f : Footprint) (t : State) : Prop where
  g : ∀ j, f.g ≠ some j → t.G j = s.G j
  r : ∀ j, f.r ≠ some j → t.R j = s.R j
  c : ∀ j, f.c ≠ some j → t.C j = s.C j
  flag : f.t = false → t.t = s.t
  res : f.res = false → t.res = s.res
  resBound : s.res.toNat ≤ 0x3FFFFFFFFFFFFFFF → t.res.toNat ≤ 0x3FFFFFFFFFFFFFFF
  read : ∀ a, ¬f.stored.hits s a → t.mem.read a = s.mem.read a
  words : t.mem.words = s.mem.words
  powerOn : t.mem.powerOn = s.mem.powerOn
  memWF : s.mem.WF → t.mem.WF
  screen : t.screen = s.screen
  host : t.host = s.host
  rsp : t.rsp = s.rsp
  faultRecord : t.faultRecord = s.faultRecord

namespace State.Within
variable {s t : State} {f : Footprint}

theorem refl : s.Within f s :=
  ⟨fun _ _ => rfl, fun _ _ => rfl, fun _ _ => rfl, fun _ => rfl, fun _ => rfl, id, fun _ _ => rfl, rfl, rfl, id, rfl,
    rfl, rfl, rfl⟩

/-! ### One update more, of a part that the footprint names -/

theorem setG {i : GReg} (hf : f.g = some i) (h : s.Within f t) (v : Word) : s.Within f (t.setG i v) where
  __ := h
  g j hj := (t.G_setG_ne v fun hij : i = j => hj (hij ▸ hf)).trans (h.g j hj)

theorem setR {i : RReg} (hf : f.r = some i) (h : s.Within f t) (q : Rect) : s.Within f (t.setR i q) where
  __ := h
  r j hj := (t.R_setR_ne q fun hij : i = j => hj (hij ▸ hf)).trans (h.r j hj)

theorem setC {i : CReg} (hf : f.c = some i) (h : s.Within f t) (d : Canvas) : s.Within f (t.setC i d) where
  __ := h
  c j hj := (t.C_setC_ne d fun hij : i = j => hj (hij ▸ hf)).trans (h.c j hj)

theorem setT (hf : f.t = true) (h : s.Within f t) (b : Bool) : s.Within f (t.setT b) where
  __ := h
  flag hflag := absurd (hf.symm.trans hflag) Bool.true_eq_false.mp

theorem setRes (hf : f.res = true) (h : s.Within f t) {v : Int} (hv : 0 ≤ v ∧ v ≤ 0x3FFFFFFFFFFFFFFF) :
    s.Within f (t.setRes v) where
  __ := h
  res hres := absurd (hf.symm.trans hres) Bool.true_eq_false.mp
  resBound _ := by
    have hexact : ((BitVec.ofInt 64 v).toNat : Int) = v := toNat_ofInt_of_bounds hv.1 (by omega)
    rw [State.setRes_res]
    omega

/-- The first store of a command: it leaves every word that the footprint does not compute. -/
theorem setMem {m : Memory} (hread : ∀ a, ¬f.stored.hits s a → m.read a = s.mem.read a) (hwords : m.words = s.mem.words)
    (hpowerOn : m.powerOn = s.mem.powerOn) (hwf : s.mem.WF → m.WF) : s.Within f (s.setMem m) where
  __ := refl
  read := hread
  words := hwords
  powerOn := hpowerOn
  memWF := hwf

/-- One word stored, at an address of the footprint. -/
theorem write {a : Int} (ha : 0 ≤ a ∧ a < s.mem.words) (hits : ∀ b : Nat, (b : Int) = a → f.stored.hits s b) (v : Word) :
    s.Within f (s.setMem (s.mem.write a.toNat v)) :=
  setMem (fun b hb => s.mem.read_write_ne v fun hba => hb (hits b (by omega))) (s.mem.write_words _ _)
    (s.mem.write_powerOn _ _) fun hwf => Memory.write_WF hwf (by omega) v

end State.Within

/-! ### Effects within a footprint -/

/-- The effect of a command begun in `s` completes within the footprint, or raises one of its causes. -/
inductive EffectWithin (f : Footprint) (s : State) : Effect → Prop
  | ok {t : State} (h : s.Within f t) : EffectWithin f s (.ok t)
  | error {k : Cause} (hk : k ∈ f.causes) : EffectWithin f s (.error k)

namespace EffectWithin
variable {f : Footprint} {s : State}

theorem require {p : Prop} [Decidable p] {k : Cause} {e : Effect} (hk : k ∈ f.causes) (h : p → EffectWithin f s e) :
    EffectWithin f s (Machine.require p k e) := by
  by_cases hp : p
  · rw [require_pos hp]; exact h hp
  · rw [require_neg hp]; exact .error hk

theorem ite {p : Prop} [Decidable p] {e e' : Effect} (h : p → EffectWithin f s e) (h' : ¬p → EffectWithin f s e') :
    EffectWithin f s (if p then e else e') := by
  split
  case isTrue hp => exact h hp
  case isFalse hp => exact h' hp

/-- What follows an access of MEM: the access faults, or `F` makes the state of its result. -/
theorem map {α : Type} {r : Except Cause α} {F : α → State} (hok : ∀ a, r = .ok a → s.Within f (F a))
    (herror : ∀ k, r = .error k → k ∈ f.causes) : EffectWithin f s (r.map F) := by
  cases r with
  | ok a => exact .ok (hok a rfl)
  | error k => exact .error (herror k rfl)

theorem of_cases {e : Effect} (hok : ∀ t, e = .ok t → s.Within f t) (herror : ∀ k, e = .error k → k ∈ f.causes) :
    EffectWithin f s e := by
  cases e with
  | ok t => exact .ok (hok t rfl)
  | error k => exact .error (herror k rfl)

theorem shiftEffect {fn : Word → Nat → Word} {gd gs : GReg} {n : Nibble} (hg : f.g = some gd)
    (hk : .operandRange ∈ f.causes) : EffectWithin f s (shiftEffect fn gd gs n s) :=
  require hk fun _ => .ok (.setG hg .refl _)

theorem putRect {rd : RReg} {q : IRect} (hr : f.r = some rd) (hk : .intOverflow ∈ f.causes) :
    EffectWithin f s (s.putRect rd q) :=
  require hk fun _ => .ok (.setR hr .refl _)

theorem storeAll {c : Canvas} {v : Word} (hits : ∀ b : Nat, (b : Int) ∈ c.cellAddrs → f.stored.hits s b)
    (hk : .memRange ∈ f.causes) : EffectWithin f s (s.storeAll v c.cellAddrs) := by
  refine of_cases (fun t ht => ?_) fun k h => State.storeAll_eq_error h ▸ hk
  obtain ⟨m, rfl, hm⟩ := State.storeAll_eq_ok ht
  refine .setMem (fun b hb => ?_) hm.words hm.powerOn hm.keepsWF
  rw [hm.read, if_neg (mt (hits b) hb)]

theorem plotAll {c : Canvas} {ps : List (Int × Int)} (hits : ∀ b i, c.Plots ps b i → f.stored.hits s b)
    (hk : .memRange ∈ f.causes) : EffectWithin f s (s.plotAll c ps) := by
  refine of_cases (fun t ht => ?_) fun k h => State.plotAll_eq_error h ▸ hk
  obtain ⟨m, rfl, hwords, hpowerOn, hwf, hbits⟩ := State.plotAll_eq_ok ht
  refine .setMem (fun b hb => ?_) hwords hpowerOn hwf
  refine BitVec.eq_of_getLsbD_eq fun i _ => Bool.eq_iff_iff.mpr ?_
  rw [hbits, or_iff_left fun hplots => hb (hits b i hplots)]

end EffectWithin

theorem State.within_of_storeWord {s t : State} {f : Footprint} {a : Int} {v : Word}
    (hits : ∀ b : Nat, (b : Int) = a → f.stored.hits s b) (h : s.storeWord a v = .ok t) : s.Within f t := by
  obtain ⟨ha, rfl⟩ := State.storeWord_eq_ok h
  exact .write ha hits v

/-! ### Each command within its footprint -/

/-- The command's meaning is an effect within its footprint. -/
def CommandWithin (i : Instr) (s : State) : Prop := ∃ e, exec i s = complete (encode i) s e ∧ EffectWithin i.footprint s e

theorem commandWithin_of_next {i : Instr} {s t : State} (h : exec i s = .next t) (ht : s.Within i.footprint t) :
    CommandWithin i s :=
  ⟨.ok t, h, .ok ht⟩

theorem commandWithin_of_faults {i : Instr} {s : State} {k : Cause} (h : Faults i s k) (hk : k ∈ i.footprint.causes) :
    CommandWithin i s :=
  ⟨.error k, h, .error hk⟩

/-- A glyph, and nothing else, is written. -/
theorem commandWithin_of_setG {i : Instr} {s : State} {gd : GReg} {v : Word} (h : exec i s = .next (s.setG gd v))
    (hg : i.footprint.g = some gd) : CommandWithin i s :=
  commandWithin_of_next h (.setG hg .refl v)

theorem marginTop_le (g : Word) : marginTop g ≤ 8 := (isLeadingCount_marginTop g).le
theorem marginBottom_le (g : Word) : marginBottom g ≤ 8 := (isLeadingCount_marginBottom g).le
theorem marginLeft_le (g : Word) : marginLeft g ≤ 8 := (isLeadingCount_marginLeft g).le
theorem marginRight_le (g : Word) : marginRight g ≤ 8 := (isLeadingCount_marginRight g).le

theorem measure_le (g : Word) : ∀ k : Fin 6, measure g k ≤ 8
  | 0 => marginTop_le g
  | 1 => marginBottom_le g
  | 2 => marginLeft_le g
  | 3 => marginRight_le g
  | 4 => by simp only [measure, glyphWidth]; split <;> omega
  | 5 => by simp only [measure, glyphHeight]; split <;> omega

theorem commandWithin_measureCommand (gs : GReg) (k : Fin 6) (s : State)
    (hres : (measureCommand gs k).footprint.res = true) : CommandWithin (measureCommand gs k) s := by
  have hle := measure_le (s.G gs) k
  exact commandWithin_of_next (exec_measureCommand gs k s) (.setRes hres .refl (by omega))

section
variable (gs : GReg) (s : State)

theorem commandWithin_pixval (x y : Nibble) : CommandWithin (.pixval gs x y) s := by
  refine ⟨_, rfl, .require (.head _) fun _ => .ok (.setRes rfl .refl ?_)⟩
  rw [pixelValue_eq_ite]
  split <;> decide

theorem commandWithin_rowbyte (row : Nibble) : CommandWithin (.rowbyte gs row) s := by
  have hlt := (rowByte (s.G gs) row.toNat).isLt
  exact ⟨_, rfl, .require (.head _) fun _ => .ok (.setRes rfl .refl (by omega))⟩

end

theorem commandWithin_lutrd (k : Nibble) (n : BitVec 8) (s : State) : CommandWithin (.lutrd k n) s := by
  refine ⟨_, rfl, .require (.head _) fun _ => .require (.tail _ (.head _)) fun hn => .ok (.setRes rfl .refl ?_)⟩
  have hle := perm_le k.toNat hn
  omega

theorem commandWithin_rclip (rd rs rb : RReg) (s : State) : CommandWithin (.rclip rd rs rb) s := by
  by_cases hsum : InI32 ((s.rect rs).x + (s.rect rs).w) ∧ InI32 ((s.rect rs).y + (s.rect rs).h)
  case neg => exact commandWithin_of_faults (rclip_faults_of_clip_error (clip_of_overflow hsum)) (.head _)
  case pos =>
    obtain ⟨-, -, hW, hH⟩ := s.rect_fits rb
    obtain ⟨ok, r, hclip, -⟩ := clip_of_not_overflow (s.rect_fits rs) hW hH hsum
    exact commandWithin_of_next (exec_rclip_of_clip_ok hclip) (.setT rfl (.setR rfl .refl _) _)

theorem commandWithin_ccrop (cd cs : CReg) (rr : RReg) (s : State) : CommandWithin (.ccrop cd cs rr) s := by
  by_cases hw : (s.C cs).WF
  case neg => exact commandWithin_of_faults (ccrop_faults_of_not_wf hw) (.head _)
  by_cases hsum : InI32 ((s.rect rr).x + (s.rect rr).w) ∧ InI32 ((s.rect rr).y + (s.rect rr).h)
  case neg => exact commandWithin_of_faults (ccrop_faults_of_clip_error hw (clip_of_overflow hsum)) (.tail _ (.head _))
  obtain ⟨ok, r, hclip, -⟩ := clip_of_not_overflow (s.rect_fits rr) (inI32_toInt _) (inI32_toInt _) hsum
  cases ok with
  | false => exact commandWithin_of_next (exec_ccrop_of_clip_false hw hclip) (.setT rfl (.setC rfl .refl _) _)
  | true =>
    exact ⟨_, exec_ccrop_of_clip_true hw hclip,
      .require (.tail _ (.head _)) fun _ => .ok (.setT rfl (.setC rfl .refl _) _)⟩

section
variable (g : GReg) (cs : CReg) (rr : RReg) (s : State)

theorem commandWithin_caddr : CommandWithin (.caddr cs rr) s := by
  refine ⟨_, rfl, .require (.head _) fun hw => .require (.tail _ (.head _)) fun hr => .ok (.setRes rfl .refl ?_)⟩
  exact Canvas.cellAddr_bounds hw (Canvas.reaches_iff.mp hr).2

theorem commandWithin_cldg : CommandWithin (.cldg g cs rr) s :=
  ⟨_, exec_cldg g cs rr s, .require (.head _) fun _ => .require (.tail _ (.head _)) fun _ =>
    .require (.tail _ (.tail _ (.head _))) fun _ => .map (fun _ _ => .setG rfl .refl _)
      fun _ h => State.loadWord_eq_error h ▸ .tail _ (.tail _ (.head _))⟩

theorem commandWithin_cstg : CommandWithin (.cstg g cs rr) s := by
  refine ⟨_, rfl, .require (.head _) fun _ => .require (.tail _ (.head _)) fun hr =>
    .require (.tail _ (.tail _ (.head _))) fun _ => .of_cases (fun t => State.within_of_storeWord fun b hb => ?hits)
      fun _ h => State.storeWord_eq_error h ▸ .tail _ (.tail _ (.head _))⟩
  exact ⟨(Canvas.reaches_iff.mp hr).2, hb.symm⟩

theorem commandWithin_cat : CommandWithin (.cat g cs rr) s :=
  ⟨_, exec_cat g cs rr s, .require (.head _) fun _ => .require (.tail _ (.head _)) fun _ =>
    .ite (fun _ => .ok (.setT rfl (.setG rfl .refl _) _)) fun _ =>
      .map (fun _ _ => .setT rfl (.setG rfl .refl _) _) fun _ h => State.loadWord_eq_error h ▸ .tail _ (.head _)⟩

theorem commandWithin_cput : CommandWithin (.cput g cs rr) s := by
  refine ⟨_, exec_cput g cs rr s, .require (.head _) fun _ => .require (.tail _ (.head _)) fun _ =>
    .ite (fun _ => .ok (.setT rfl .refl _)) fun hr =>
      .map (fun t ht => .setT rfl (State.within_of_storeWord (fun b hb => ?hits) ht) _)
        fun _ h => State.storeWord_eq_error h ▸ .tail _ (.head _)⟩
  exact ⟨(Canvas.reaches_iff.mp hr).2, hb.symm⟩

theorem commandWithin_cfill : CommandWithin (.cfill cs g) s :=
  ⟨_, rfl, .require (.head _) fun _ => .require (.tail _ (.head _)) fun _ =>
    .storeAll (fun _ => Canvas.mem_cellAddrs.mp) (.tail _ (.head _))⟩

theorem commandWithin_cplot : CommandWithin (.cplot cs rr) s := by
  refine ⟨_, exec_cplot cs rr s, .require (.head _) fun _ => .require (.tail _ (.head _)) fun _ =>
    .map (fun bt ht => .setT rfl ?plotted _) fun _ h => State.plot_eq_error h ▸ .tail _ (.head _)⟩
  rcases State.plot_eq_ok ht with ⟨hp, -, ha, hwrite⟩ | ⟨-, -, hsame⟩
  · exact hwrite ▸ .write (f := (Instr.cplot cs rr).footprint) ha (fun b hb => ⟨hp, hb.symm⟩) _
  · exact hsame ▸ .refl

theorem commandWithin_cline : CommandWithin (.cline cs rr) s :=
  ⟨_, rfl, .require (.head _) fun _ => .require (.tail _ (.head _)) fun _ =>
    .plotAll (fun _ _ ⟨p, hp, hin, haddr, _⟩ => ⟨p, hp, hin, haddr⟩) (.tail _ (.head _))⟩

end

/-- Each of the 45 commands, by the form of its effect. -/
theorem commandWithin : ∀ (i : Instr) (s : State), CommandWithin i s
  | .nop, _ => commandWithin_of_next rfl .refl
  | .gmask .., _ | .glyph4 .., _ | .tallhalf2 .., _ | .widehalf2 .., _ | .gmov .., _ | .gflip .., _ | .gmirror .., _
  | .grot180 .., _ | .gtransp .., _ | .grot270 .., _ | .grot90 .., _ | .gmerge .., _ => commandWithin_of_setG rfl rfl
  | .frompix .., _ => ⟨_, rfl, .require (.head _) fun _ => .ok (.setG rfl .refl _)⟩
  | .pixval gs x y, s => commandWithin_pixval gs s x y
  | .rowbyte gs row, s => commandWithin_rowbyte gs s row
  | .lutrd k n, s => commandWithin_lutrd k n s
  | .mtop gs, s => commandWithin_measureCommand gs 0 s rfl
  | .mbot gs, s => commandWithin_measureCommand gs 1 s rfl
  | .mleft gs, s => commandWithin_measureCommand gs 2 s rfl
  | .mright gs, s => commandWithin_measureCommand gs 3 s rfl
  | .gwidth gs, s => commandWithin_measureCommand gs 4 s rfl
  | .gheight gs, s => commandWithin_measureCommand gs 5 s rfl
  | .gshl .., _ | .gshr .., _ | .gshu .., _ | .gshd .., _ | .gcyl .., _ | .gcyr .., _ | .gcyu .., _ | .gcyd .., _ =>
    ⟨_, rfl, .shiftEffect rfl (.head _)⟩
  | .rnorm .., _ | .rtoabs .., _ | .rtoreg .., _ => ⟨_, rfl, .putRect rfl (.head _)⟩
  | .rclip rd rs rb, s => commandWithin_rclip rd rs rb s
  | .caddr cs rr, s => commandWithin_caddr cs rr s
  | .cldg g cs rr, s => commandWithin_cldg g cs rr s
  | .cstg g cs rr, s => commandWithin_cstg g cs rr s
  | .cat g cs rr, s => commandWithin_cat g cs rr s
  | .cput g cs rr, s => commandWithin_cput g cs rr s
  | .cisnull _, _ => ⟨_, rfl, .require (.head _) fun _ => .ok (.setT rfl .refl _)⟩
  | .ccrop cd cs rr, s => commandWithin_ccrop cd cs rr s
  | .cfill cs g, s => commandWithin_cfill g cs s
  | .cplot cs rr, s => commandWithin_cplot cs rr s
  | .cline cs rr, s => commandWithin_cline cs rr s

/-- A command raises a cause of its footprint in the state it found, or ends within its footprint. -/
theorem exec_raises_or_within {i : Instr} {s t : State} (h : exec i s = .next t) :
    (∃ k ∈ i.footprint.causes, t = s.raise k .cmd (encode i)) ∨ s.Within i.footprint t := by
  obtain ⟨e, hexec, hwithin⟩ := commandWithin i s
  rw [hexec] at h
  cases hwithin with
  | ok ht => exact .inr (Host.Outcome.next.inj h ▸ ht)
  | error hk => exact .inl ⟨_, hk, (Host.Outcome.next.inj h).symm⟩

/-! ### The causes a command can raise (R201) -/

/-- ILLEGAL_CMD is a cause of LUTRD alone, for the selectors that no word has. -/
theorem eq_lutrd_of_illegalCmd_mem {i : Instr} (h : .illegalCmd ∈ i.footprint.causes) : ∃ k n, i = .lutrd k n := by
  cases i with
  | lutrd k n => exact ⟨k, n, rfl⟩
  | _ => simp [Instr.footprint] at h

theorem badReg_not_mem_causes (i : Instr) : .badReg ∉ i.footprint.causes := by
  cases i <;> simp [Instr.footprint]

/-- A well-formed command does not raise ILLEGAL_CMD: its selector passes the test of R89. -/
theorem exec_raises_or_within_of_wellFormed {i : Instr} (hwf : i.wellFormed = true) {s t : State}
    (h : exec i s = .next t) :
    (∃ k, k ≠ .illegalCmd ∧ k ≠ .badReg ∧ t = s.raise k .cmd (encode i)) ∨ s.Within i.footprint t := by
  have hreg := badReg_not_mem_causes i
  by_cases hillegal : .illegalCmd ∈ i.footprint.causes
  case neg =>
    refine (exec_raises_or_within h).imp_left ?_
    rintro ⟨k, hk, ht⟩
    exact ⟨k, fun he => hillegal (he ▸ hk), fun he => hreg (he ▸ hk), ht⟩
  case pos =>
    obtain ⟨k, n, rfl⟩ := eq_lutrd_of_illegalCmd_mem hillegal
    have hk : k.toNat < 7 := of_decide_eq_true hwf
    by_cases hn : InLut n
    case neg =>
      obtain rfl := Host.Outcome.next.inj ((lutrd_faults_of_not_inLut hk hn s).symm.trans h)
      exact .inl ⟨.operandRange, nofun, nofun, rfl⟩
    case pos =>
      obtain rfl := Host.Outcome.next.inj ((exec_lutrd_of_inLut hk hn s).symm.trans h)
      have hle := perm_le k.toNat hn
      exact .inr (.setRes rfl .refl (by omega))

/-! ### The commands that write T and RES (R30, R31) -/

theorem mnemonic_mem_of_footprint_t {i : Instr} (h : i.footprint.t = true) :
    i.mnemonic ∈ ["RCLIP", "CCROP", "CAT", "CPUT", "CISNULL", "CPLOT"] := by
  cases i <;> revert h <;> simp [Instr.footprint, Instr.mnemonic]

theorem mnemonic_mem_of_footprint_res {i : Instr} (h : i.footprint.res = true) :
    i.mnemonic ∈ ["PIXVAL", "ROWBYTE", "LUTRD", "MTOP", "MBOT", "MLEFT", "MRIGHT", "GWIDTH", "GHEIGHT", "CADDR"] := by
  cases i <;> revert h <;> simp [Instr.footprint, Instr.mnemonic]

/-! ### The fault record that a fault writes (R32, R201, R202) -/

section
variable {s t : State}

/-- The fault record is judged against the size of MEM and nothing else. -/
theorem State.FaultRecordOk.of_faultRecord_eq (h : s.FaultRecordOk) (hrec : t.faultRecord = s.faultRecord)
    (hwords : t.mem.words = s.mem.words) : t.FaultRecordOk := by
  simp only [State.faultRecord, Prod.mk.injEq] at hrec
  obtain ⟨hfault, hcause, hinfo, hsrc⟩ := hrec
  rwa [State.FaultRecordOk, hfault, hcause, hinfo, hsrc, hwords]

theorem Cause.code_bounds {k : Cause} (h : k ≠ .badReg) : 1 ≤ k.code.toNat ∧ k.code.toNat ≤ 6 := by
  cases k with
  | badReg => exact absurd rfl h
  | _ => decide

theorem Cause.code_eq_one_iff {k : Cause} : k.code = 1 ↔ k = .illegalCmd := by
  cases k <;> decide

variable (s)

theorem State.faultRecordOk_raise_cmd {k : Cause} {w : CmdWord} (hreg : k ≠ .badReg)
    (hillegal : k = .illegalCmd ↔ decodes w = false) : (s.raise k .cmd w).FaultRecordOk :=
  .inl ⟨rfl, Cause.code_bounds hreg, Cause.code_eq_one_iff.trans hillegal⟩

theorem State.faultRecordOk_raise_reg {n : BitVec 8} (hn : hostReg n = none) :
    (s.raise .badReg .reg (n.setWidth 32)).FaultRecordOk := by
  have hback : (n.setWidth 32).setWidth 8 = n := by simp
  have hlt : (n.setWidth 32).toNat < 256 := by
    rw [BitVec.toNat_setWidth_of_le (by decide)]
    exact n.isLt
  exact .inr (.inl ⟨rfl, rfl, hlt, (congrArg hostReg hback).trans hn⟩)

theorem State.faultRecordOk_raise_mem {a : BitVec 32} (ha : s.mem.words ≤ a.toNat) :
    (s.raise .memRange .mem a).FaultRecordOk :=
  .inr (.inr ⟨rfl, rfl, ha⟩)

end

/-! ### The invariant, transaction by transaction -/

namespace State.Inv
variable {s t : State}

/-- Taking a fault touches nothing of the invariant but the fault record. -/
theorem raise (h : s.Inv) {k : Cause} {src : Source} {info : BitVec 32} (hrec : (s.raise k src info).FaultRecordOk) :
    (s.raise k src info).Inv :=
  let ⟨hparams, hmem, _, hres⟩ := h
  ⟨hparams, hmem, hrec, hres⟩

theorem raiseUnlessFaulted (h : s.Inv) {k : Cause} {src : Source} {info : BitVec 32}
    (hrec : (s.raise k src info).FaultRecordOk) : (s.raiseUnlessFaulted k src info).Inv := by
  unfold State.raiseUnlessFaulted
  split
  · exact h
  · exact h.raise hrec

/-- The returned value and the host's list are no part of the invariant. -/
theorem answer (h : s.Inv) (v : Word) : (s.answer v).Inv := h

theorem accept (h : s.Inv) (rest : List Transaction) : (s.accept rest).Inv := h

theorem resetBlock (h : s.Inv) : s.resetBlock.Inv :=
  let ⟨hparams, hmem, _, _⟩ := h
  ⟨hparams, hmem, ⟨rfl, rfl, rfl⟩, Nat.zero_le _⟩

theorem writeReg (h : s.Inv) (v : Word) (q : HostReg) : (s.writeReg v q).Inv := by
  cases q <;> exact h

theorem memWrite (h : s.Inv) {a : Nat} (ha : a < s.mem.words) (v : Word) : (s.setMem (s.mem.write a v)).Inv := by
  obtain ⟨hparams, hmem, hrec, hres⟩ := h
  refine ⟨?_, Memory.write_WF hmem ha v, hrec.of_faultRecord_eq rfl (s.mem.write_words a v), hres⟩
  simpa using hparams

theorem within (h : s.Inv) {f : Footprint} (ht : s.Within f t) : t.Inv := by
  obtain ⟨hparams, hmem, hrec, hres⟩ := h
  refine ⟨?_, ht.memWF hmem, hrec.of_faultRecord_eq ht.faultRecord ht.words, ht.resBound hres⟩
  rwa [ht.words, ht.screen]

theorem cmd (h : s.Inv) {w : CmdWord} (ht : perform (.cmd w) s = .next t) : t.Inv := by
  by_cases hf : s.fault = true
  case pos => exact Host.Outcome.next.inj ((perform_cmd_of_faulted hf w).symm.trans ht) ▸ h
  replace hf : s.fault = false := Bool.eq_false_of_not_eq_true hf
  by_cases hdecode : ∃ i, decode w = .ok i
  case neg =>
    rw [perform_cmd_of_not_decode hf (not_exists.mp hdecode)] at ht
    have hillegal : decodes w = false := Bool.eq_false_of_not_eq_true (mt decodes_iff.mp hdecode)
    exact Host.Outcome.next.inj ht ▸ h.raise (s.faultRecordOk_raise_cmd nofun (iff_of_true rfl hillegal))
  case pos =>
    have hlegal : ¬decodes w = false := by rw [decodes_iff.mpr hdecode]; nofun
    obtain ⟨i, hi⟩ := hdecode
    obtain ⟨rfl, hwf⟩ := encode_of_decode hi
    rw [perform_cmd_of_decode hf hi] at ht
    rcases exec_raises_or_within_of_wellFormed hwf ht with ⟨k, hillegal, hreg, rfl⟩ | hwithin
    · exact h.raise (s.faultRecordOk_raise_cmd hreg (iff_of_false hillegal hlegal))
    · exact h.within hwithin

theorem regRead (h : s.Inv) (n : BitVec 8) : (s.regRead n).Inv := by
  unfold State.regRead
  split
  case h_1 => exact h.answer _
  case h_2 hn => exact (h.raiseUnlessFaulted (s.faultRecordOk_raise_reg hn)).answer 0

theorem regWrite (h : s.Inv) (n : BitVec 8) (v : Word) : (s.regWrite n v).Inv := by
  unfold State.regWrite
  split
  case h_1 q hn =>
    split
    · exact h
    · exact h.writeReg v q
  case h_2 hn => exact h.raiseUnlessFaulted (s.faultRecordOk_raise_reg hn)

theorem hostMemRead (h : s.Inv) (a : BitVec 32) : (s.hostMemRead a).Inv := by
  unfold State.hostMemRead
  split
  case isTrue => exact h.answer _
  case isFalse ha => exact (h.raiseUnlessFaulted (s.faultRecordOk_raise_mem (not_lt.mp ha))).answer 0

theorem hostMemWrite (h : s.Inv) (a : BitVec 32) (v : Word) : (s.hostMemWrite a v).Inv := by
  unfold State.hostMemWrite
  split
  case isTrue => exact h
  case isFalse =>
    split
    case isTrue ha => exact h.memWrite ha v
    case isFalse ha => exact h.raise (s.faultRecordOk_raise_mem (not_lt.mp ha))

theorem perform (h : s.Inv) {x : Transaction} (ht : perform x s = .next t) : t.Inv := by
  cases x with
  | cmd w => exact h.cmd ht
  | reset => exact Host.Outcome.next.inj ht ▸ h.resetBlock
  | regRead n => exact Host.Outcome.next.inj ht ▸ h.regRead n
  | regWrite n v => exact Host.Outcome.next.inj ht ▸ h.regWrite n v
  | memRead a => exact Host.Outcome.next.inj ht ▸ h.hostMemRead a
  | memWrite a v => exact Host.Outcome.next.inj ht ▸ h.hostMemWrite a v

end State.Inv

end Sys2Proof.Machine

namespace Sys2Proof.Proofs
open Sys2Proof.Machine

/-- Settles O14: each kind of transaction keeps the invariant; a command by its footprint, or by the fault it takes. -/
theorem stepKeepsTheInvariant : Obligations.StepKeepsTheInvariant := by
  intro s t hs ht
  cases hhost : s.host with
  | nil => exact Host.Outcome.next.inj ((step_of_host_nil hhost).symm.trans ht) ▸ hs
  | cons x rest => exact (hs.accept rest).perform ((step_of_host_cons hhost).symm.trans ht)

/-- Settles O13: the cause is one of the footprint's, and within a footprint the fault record is kept. -/
theorem commandsRaiseOnlyTheirCauses : Obligations.CommandsRaiseOnlyTheirCauses := by
  intro i s t h
  refine (exec_raises_or_within h).imp_right fun ht => ?_
  simpa [State.faultRecord] using ht.faultRecord

/-- Settles O16: a fault writes no register, and within a footprint only its destinations change. -/
theorem commandsChangeOnlyTheirDestinationRegister : Obligations.CommandsChangeOnlyTheirDestinationRegister := by
  intro i s t h
  rcases exec_raises_or_within h with ⟨k, -, rfl⟩ | ht
  · exact ⟨fun _ _ => rfl, fun _ _ => rfl, fun _ _ => rfl⟩
  · exact ⟨ht.g, ht.r, ht.c⟩

/-- Settles O17: the mnemonics are those whose footprint writes T, and those whose footprint writes RES. -/
theorem onlyTheNamedCommandsWriteTAndRes : Obligations.OnlyTheNamedCommandsWriteTAndRes := by
  intro i s t h
  rcases exec_raises_or_within h with ⟨k, -, rfl⟩ | ht
  · exact ⟨fun _ => rfl, fun _ => rfl⟩
  · exact ⟨fun hname => ht.flag (Bool.eq_false_of_not_eq_true (mt mnemonic_mem_of_footprint_t hname)),
      fun hname => ht.res (Bool.eq_false_of_not_eq_true (mt mnemonic_mem_of_footprint_res hname))⟩

/-- Settles O18: a fault stores nothing, and within a footprint only its words are stored to. -/
theorem commandsChangeOnlyTheWordsTheyStoreTo : Obligations.CommandsChangeOnlyTheWordsTheyStoreTo := by
  intro i s t h
  rcases exec_raises_or_within h with ⟨k, -, rfl⟩ | ht
  · exact ⟨fun _ _ => rfl, rfl, rfl, rfl, rfl, rfl⟩
  · exact ⟨ht.read, ht.words, ht.powerOn, ht.screen, ht.host, ht.rsp⟩

end Sys2Proof.Proofs
end

section
/-! PROOFS. No command reads T or RES (spec/10_state.md R30, R31): two runs of a command from states that agree in all
that a command reads, followed effect by effect, and the obligation. -/

namespace Sys2Proof.Machine

/-! ### Two runs side by side -/

/-- The two states agree in G, R, C, MEM and the fault record. -/
structure State.Agree (s u : State) : Prop where
  g : s.g = u.g
  r : s.r = u.r
  c : s.c = u.c
  mem : s.mem = u.mem
  fault : s.fault = u.fault
  cause : s.cause = u.cause
  info : s.info = u.info
  src : s.src = u.src

/-- The state `s` with all that no command reads taken from `u`. -/
def State.overlay (s u : State) : State :=
  { s with t := u.t, res := u.res, screen := u.screen, host := u.host, rsp := u.rsp }

theorem State.Agree.eq_overlay {s u : State} (h : s.Agree u) : u = s.overlay u := by
  obtain ⟨hg, hr, hc, hmem, hfault, hcause, hinfo, hsrc⟩ := h
  simp only [State.overlay, hg, hr, hc, hmem, hfault, hcause, hinfo, hsrc]

/-- Two runs, begun in `s` and `u`, that have come to `s'` and `u'`: these agree, and T and RES each hold one value in
both or are as the runs began. -/
structure RunsAlike (s u s' u' : State) : Prop where
  agree : s'.Agree u'
  flag : s'.t = u'.t ∨ (s'.t = s.t ∧ u'.t = u.t)
  res : s'.res = u'.res ∨ (s'.res = s.res ∧ u'.res = u.res)

namespace RunsAlike
variable {s u s' u' : State}

theorem refl : RunsAlike s u s (s.overlay u) := ⟨⟨rfl, rfl, rfl, rfl, rfl, rfl, rfl, rfl⟩, .inr ⟨rfl, rfl⟩, .inr ⟨rfl, rfl⟩⟩

theorem setG (h : RunsAlike s u s' u') (i : GReg) (v : Word) : RunsAlike s u (s'.setG i v) (u'.setG i v) :=
  ⟨{ h.agree with g := congrArg (·.set i v) h.agree.g }, h.flag, h.res⟩

theorem setR (h : RunsAlike s u s' u') (i : RReg) (q : Rect) : RunsAlike s u (s'.setR i q) (u'.setR i q) :=
  ⟨{ h.agree with r := congrArg (·.set i q) h.agree.r }, h.flag, h.res⟩

theorem setC (h : RunsAlike s u s' u') (i : CReg) (d : Canvas) : RunsAlike s u (s'.setC i d) (u'.setC i d) :=
  ⟨{ h.agree with c := congrArg (·.set i d) h.agree.c }, h.flag, h.res⟩

theorem setMem (h : RunsAlike s u s' u') (m : Memory) : RunsAlike s u (s'.setMem m) (u'.setMem m) :=
  ⟨{ h.agree with mem := rfl }, h.flag, h.res⟩

theorem setT (h : RunsAlike s u s' u') (b : Bool) : RunsAlike s u (s'.setT b) (u'.setT b) :=
  ⟨{ h.agree with }, .inl rfl, h.res⟩

theorem setRes (h : RunsAlike s u s' u') (v : Int) : RunsAlike s u (s'.setRes v) (u'.setRes v) :=
  ⟨{ h.agree with }, h.flag, .inl rfl⟩

theorem raise (h : RunsAlike s u s' u') (k : Cause) (src : Source) (info : BitVec 32) :
    RunsAlike s u (s'.raise k src info) (u'.raise k src info) :=
  ⟨{ h.agree with fault := rfl, cause := rfl, info := rfl, src := rfl }, h.flag, h.res⟩

end RunsAlike

/-- The effects of two runs: the same fault, or end states alike. -/
inductive EffectsAlike (s u : State) : Effect → Effect → Prop
  | ok {s' u' : State} (h : RunsAlike s u s' u') : EffectsAlike s u (.ok s') (.ok u')
  | error (k : Cause) : EffectsAlike s u (.error k) (.error k)

/-- The same of an effect that also gives a value, one in both runs. -/
inductive ResultsAlike (α : Type) (s u : State) : Except Cause (α × State) → Except Cause (α × State) → Prop
  | ok {a : α} {s' u' : State} (h : RunsAlike s u s' u') : ResultsAlike α s u (.ok (a, s')) (.ok (a, u'))
  | error (k : Cause) : ResultsAlike α s u (.error k) (.error k)

section
variable {s u s' u' : State} {e e' : Effect}

namespace EffectsAlike

theorem require {p : Prop} [Decidable p] {k : Cause} (h : EffectsAlike s u e e') :
    EffectsAlike s u (Machine.require p k e) (Machine.require p k e') := by
  unfold Machine.require
  split
  · exact h
  · exact .error k

theorem ite {p : Prop} [Decidable p] {d d' : Effect} (h : EffectsAlike s u e e') (h' : EffectsAlike s u d d') :
    EffectsAlike s u (if p then e else d) (if p then e' else d') := by
  split
  · exact h
  · exact h'

/-- Both runs read the same word of MEM, or the same fault stops them. -/
theorem mapRead {r : Except Cause Word} {F F' : Word → State} (h : ∀ v, RunsAlike s u (F v) (F' v)) :
    EffectsAlike s u (r.map F) (r.map F') := by
  cases r with
  | ok v => exact .ok (h v)
  | error k => exact .error k

theorem mapSetT (h : EffectsAlike s u e e') (b : Bool) : EffectsAlike s u (e.map (·.setT b)) (e'.map (·.setT b)) := by
  cases h with
  | ok h => exact .ok (h.setT b)
  | error k => exact .error k

theorem storeWord (h : RunsAlike s u s' u') (a : Int) (v : Word) :
    EffectsAlike s u (s'.storeWord a v) (u'.storeWord a v) := by
  unfold State.storeWord
  rw [h.agree.mem]
  exact ite (.ok (h.setMem _)) (.error _)

theorem storeAll (h : RunsAlike s u s' u') (v : Word) (as : List Int) :
    EffectsAlike s u (s'.storeAll v as) (u'.storeAll v as) := by
  induction as generalizing s' u' with
  | nil => exact .ok h
  | cons a as ih =>
    have hstore := storeWord h a v
    simp only [State.storeAll]
    generalize s'.storeWord a v = e, u'.storeWord a v = e' at hstore ⊢
    cases hstore with
    | ok h => exact ih h
    | error k => exact .error k

end EffectsAlike

theorem loadWord_eq_of_mem_eq (h : s'.mem = u'.mem) (a : Int) : s'.loadWord a = u'.loadWord a := by
  unfold State.loadWord
  rw [h]

theorem ResultsAlike.plot (h : RunsAlike s u s' u') (c : Canvas) (x y : Int) :
    ResultsAlike Bool s u (s'.plot c x y) (u'.plot c x y) := by
  unfold State.plot
  rw [loadWord_eq_of_mem_eq h.agree.mem]
  split
  case isFalse => exact .ok h
  case isTrue =>
    cases u'.loadWord (c.cellAddr (x / 8) (y / 8)) with
    | error k => exact .error k
    | ok v =>
      have hstore := EffectsAlike.storeWord h (c.cellAddr (x / 8) (y / 8)) (v ||| fromPixel (x % 8).toNat (y % 8).toNat)
      simp only
      generalize s'.storeWord _ _ = e, u'.storeWord _ _ = e' at hstore ⊢
      cases hstore with
      | ok h => exact .ok h
      | error k => exact .error k

theorem EffectsAlike.plotAll (h : RunsAlike s u s' u') (c : Canvas) (ps : List (Int × Int)) :
    EffectsAlike s u (s'.plotAll c ps) (u'.plotAll c ps) := by
  induction ps generalizing s' u' with
  | nil => exact .ok h
  | cons p ps ih =>
    have hplot := ResultsAlike.plot h c p.1 p.2
    simp only [State.plotAll]
    generalize s'.plot c p.1 p.2 = r, u'.plot c p.1 p.2 = r' at hplot ⊢
    cases hplot with
    | ok h => exact ih h
    | error k => exact .error k

theorem ResultsAlike.mapSetT {r r' : Except Cause (Bool × State)} (h : ResultsAlike Bool s u r r') :
    EffectsAlike s u (r.map fun bt => bt.2.setT bt.1) (r'.map fun bt => bt.2.setT bt.1) := by
  cases h with
  | ok h => exact .ok (h.setT _)
  | error k => exact .error k

end

/-! ### Each command -/

/-- The command's effects in `s` and in `s` with the unread fields of `u` are alike. -/
def CommandBlind (i : Instr) (s u : State) : Prop :=
  ∃ e e', exec i s = complete (encode i) s e ∧ exec i (s.overlay u) = complete (encode i) (s.overlay u) e' ∧
    EffectsAlike s u e e'

section
variable {i : Instr} {s u : State}

theorem commandBlind_of_next {s' u' : State} (hs : exec i s = .next s') (hu : exec i (s.overlay u) = .next u')
    (h : RunsAlike s u s' u') : CommandBlind i s u :=
  ⟨.ok s', .ok u', hs, hu, .ok h⟩

theorem commandBlind_of_faults {k : Cause} (hs : Faults i s k) (hu : Faults i (s.overlay u) k) : CommandBlind i s u :=
  ⟨.error k, .error k, hs, hu, .error k⟩

end

theorem commandBlind_rclip (rd rs rb : RReg) (s u : State) : CommandBlind (.rclip rd rs rb) s u := by
  cases hclip : clip (s.rect rs) (s.rect rb).w (s.rect rb).h with
  | error k => exact commandBlind_of_faults (rclip_faults_of_clip_error hclip) (rclip_faults_of_clip_error hclip)
  | ok r =>
    exact commandBlind_of_next (exec_rclip_of_clip_ok hclip) (exec_rclip_of_clip_ok (s := s.overlay u) hclip)
      ((RunsAlike.refl.setR rd _).setT _)

theorem commandBlind_ccrop (cd cs : CReg) (rr : RReg) (s u : State) : CommandBlind (.ccrop cd cs rr) s u := by
  by_cases hw : (s.C cs).WF
  case neg => exact commandBlind_of_faults (ccrop_faults_of_not_wf hw) (ccrop_faults_of_not_wf hw)
  case pos =>
    match hclip : clip (s.rect rr) (s.C cs).width.toInt (s.C cs).height.toInt with
    | .error k =>
      exact commandBlind_of_faults (ccrop_faults_of_clip_error hw hclip)
        (ccrop_faults_of_clip_error (s := s.overlay u) hw hclip)
    | .ok (false, r) =>
      exact commandBlind_of_next (exec_ccrop_of_clip_false hw hclip)
        (exec_ccrop_of_clip_false (s := s.overlay u) hw hclip) ((RunsAlike.refl.setC cd _).setT _)
    | .ok (true, r) =>
      exact ⟨_, _, exec_ccrop_of_clip_true hw hclip, exec_ccrop_of_clip_true (s := s.overlay u) hw hclip,
        .require (.ok ((RunsAlike.refl.setC cd _).setT _))⟩

/-- Each of the 45 commands: what its effect reads is the same in `s` and in `s.overlay u`, by definition. -/
theorem commandBlind : ∀ (i : Instr) (s u : State), CommandBlind i s u
  | .nop, _, _ => commandBlind_of_next rfl rfl .refl
  | .gmask gd _, _, _ | .glyph4 gd .., _, _ | .tallhalf2 gd .., _, _ | .widehalf2 gd .., _, _ | .gmov gd _, _, _
  | .gflip gd _, _, _ | .gmirror gd _, _, _ | .grot180 gd _, _, _ | .gtransp gd _, _, _ | .grot270 gd _, _, _
  | .grot90 gd _, _, _ | .gmerge gd .., _, _ => commandBlind_of_next rfl rfl (RunsAlike.refl.setG gd _)
  | .mtop _, _, _ | .mbot _, _, _ | .mleft _, _, _ | .mright _, _, _ | .gwidth _, _, _ | .gheight _, _, _ =>
    commandBlind_of_next rfl rfl (RunsAlike.refl.setRes _)
  | .frompix gd .., _, _ => ⟨_, _, rfl, rfl, .require (.ok (RunsAlike.refl.setG gd _))⟩
  | .pixval .., _, _ | .rowbyte .., _, _ => ⟨_, _, rfl, rfl, .require (.ok (RunsAlike.refl.setRes _))⟩
  | .lutrd .., _, _ => ⟨_, _, rfl, rfl, .require (.require (.ok (RunsAlike.refl.setRes _)))⟩
  | .gshl gd .., _, _ | .gshr gd .., _, _ | .gshu gd .., _, _ | .gshd gd .., _, _ | .gcyl gd .., _, _
  | .gcyr gd .., _, _ | .gcyu gd .., _, _ | .gcyd gd .., _, _ =>
    ⟨_, _, rfl, rfl, .require (.ok (RunsAlike.refl.setG gd _))⟩
  | .rnorm rd _, _, _ | .rtoabs rd _, _, _ | .rtoreg rd _, _, _ =>
    ⟨_, _, rfl, rfl, .require (.ok (RunsAlike.refl.setR rd _))⟩
  | .rclip rd rs rb, s, u => commandBlind_rclip rd rs rb s u
  | .caddr .., _, _ => ⟨_, _, rfl, rfl, .require (.require (.ok (RunsAlike.refl.setRes _)))⟩
  | .cldg gd cs rr, s, u => ⟨_, _, exec_cldg gd cs rr s, exec_cldg gd cs rr (s.overlay u),
      .require (.require (.require (.mapRead fun _ => RunsAlike.refl.setG gd _)))⟩
  | .cstg .., _, _ => ⟨_, _, rfl, rfl, .require (.require (.require (.storeWord .refl _ _)))⟩
  | .cat gd cs rr, s, u => ⟨_, _, exec_cat gd cs rr s, exec_cat gd cs rr (s.overlay u),
      .require (.require (.ite (.ok ((RunsAlike.refl.setG gd _).setT _))
        (.mapRead fun _ => (RunsAlike.refl.setG gd _).setT _)))⟩
  | .cput gs cs rr, s, u => ⟨_, _, exec_cput gs cs rr s, exec_cput gs cs rr (s.overlay u),
      .require (.require (.ite (.ok (RunsAlike.refl.setT _)) (.mapSetT (.storeWord .refl _ _) _)))⟩
  | .cisnull _, _, _ => ⟨_, _, rfl, rfl, .require (.ok (RunsAlike.refl.setT _))⟩
  | .ccrop cd cs rr, s, u => commandBlind_ccrop cd cs rr s u
  | .cfill .., _, _ => ⟨_, _, rfl, rfl, .require (.require (.storeAll .refl _ _))⟩
  | .cplot cs rr, s, u => ⟨_, _, exec_cplot cs rr s, exec_cplot cs rr (s.overlay u),
      .require (.require (ResultsAlike.plot .refl _ _ _).mapSetT)⟩
  | .cline .., _, _ => ⟨_, _, rfl, rfl, .require (.require (.plotAll .refl _ _))⟩

theorem runsAlike_of_exec {i : Instr} {s u s' u' : State} (h : s.Agree u) (hs : exec i s = .next s')
    (hu : exec i u = .next u') : RunsAlike s u s' u' := by
  obtain ⟨e, e', hexec, hexec', halike⟩ := commandBlind i s u
  rw [h.eq_overlay, hexec'] at hu
  rw [hexec] at hs
  obtain rfl := Host.Outcome.next.inj hs
  obtain rfl := Host.Outcome.next.inj hu
  cases halike with
  | ok h => exact h
  | error k => exact RunsAlike.refl.raise k .cmd _

end Sys2Proof.Machine

namespace Sys2Proof.Proofs
open Sys2Proof.Machine

/-- Settles O19: the two runs are alike, whatever each begins with in the fields that no command reads. -/
theorem noCommandReadsTOrRes : Obligations.NoCommandReadsTOrRes := by
  intro i s u s' u' hg hr hc hmem hfault hcause hinfo hsrc hs hu
  have h := runsAlike_of_exec ⟨hg, hr, hc, hmem, hfault, hcause, hinfo, hsrc⟩ hs hu
  exact ⟨h.agree.g, h.agree.r, h.agree.c, h.agree.mem, h.agree.fault, h.agree.cause, h.agree.info, h.agree.src,
    h.flag, h.res⟩

end Sys2Proof.Proofs
end

section
/-! PROOFS. MEM as data (spec/20_memory.md; log 3): the canonical list of a memory is determined by what the memory reads,
a stored word is what every canvas and the host read at its address (R51, R52), and the two obligations. -/

namespace Sys2Proof.Machine

/-! ### The canonical form is determined by reading (log 3) -/

/-- In a list of rising addresses an entry is found at its address. -/
theorem cellAt_eq_some_iff {l : List MemCell} (hl : l.Pairwise fun p q => p.1 < q.1) {a : Nat} {v : Word} :
    cellAt a l = some v ↔ (a, v) ∈ l := by
  induction l with
  | nil => simp [cellAt]
  | cons q t ih =>
    obtain ⟨b, u⟩ := q
    obtain ⟨hfirst, hrest⟩ := List.pairwise_cons.mp hl
    rw [cellAt, List.mem_cons, Prod.mk.injEq]
    split
    case isTrue hab =>
      subst hab
      have hnot : (a, v) ∉ t := fun hmem => lt_irrefl a (hfirst (a, v) hmem)
      simp [hnot, eq_comm]
    case isFalse hab => simp [hab, ih hrest]

/-- The listed words are those that differ from their power-on value. -/
theorem Memory.mem_cells_iff {m : Memory} (h : m.WF) {p : MemCell} :
    p ∈ m.cells ↔ m.read p.1 = p.2 ∧ p.2 ≠ m.unlisted p.1 := by
  obtain ⟨hrising, hlisted⟩ := h
  rw [← Prod.mk.eta (p := p), ← cellAt_eq_some_iff hrising, Memory.read]
  constructor
  · intro hp
    have hmem : p ∈ m.cells := (cellAt_eq_some_iff hrising).mp hp
    exact ⟨by rw [hp, Option.getD_some], (hlisted p hmem).2⟩
  · rintro ⟨hread, hne⟩
    cases hcell : cellAt p.1 m.cells with
    | none => exact absurd (by rw [← hread, hcell, Option.getD_none]) hne
    | some v => rw [← hread, hcell, Option.getD_some]

/-- Lists of rising addresses with the same entries are equal. -/
theorem cells_eq_of_mem_iff {l l' : List MemCell} (hl : l.Pairwise fun p q => p.1 < q.1)
    (hl' : l'.Pairwise fun p q => p.1 < q.1) (h : ∀ p, p ∈ l ↔ p ∈ l') : l = l' := by
  have hirrefl : Std.Irrefl fun p q : MemCell => p.1 < q.1 := ⟨fun p => lt_irrefl p.1⟩
  have hantisymm : Std.Antisymm fun p q : MemCell => p.1 < q.1 := ⟨fun p q hpq hqp => absurd hqp hpq.asymm⟩
  exact hl.eq_of_mem_iff hl' h

/-! ### A stored word, read again (R43, R51) -/

section
variable (g : GReg) {cs : CReg} {rr : RReg} {s : State} (hw : (s.C cs).WF) (hf : (s.C cs).Fits s.mem.words)
  (hi : (s.C cs).InCells (s.rect rr).x (s.rect rr).y)
include hw hf hi

theorem exec_cstg_of_inCells : exec (.cstg g cs rr) s =
    .next (s.setMem (s.mem.write ((s.C cs).cellAddr (s.rect rr).x (s.rect rr).y).toNat (s.G g))) := by
  have hr := Canvas.reaches_iff.mpr ⟨Canvas.not_isNull_of_inCells hw hi, hi⟩
  rw [exec_of_require (exec_of_require (exec_of_require (exec_cstg g cs rr s) hw) hr) hf,
    State.storeWord_ok s (Canvas.cellAddr_inMem hw hf hi), complete_ok]

theorem exec_cldg_of_inCells : exec (.cldg g cs rr) s =
    .next (s.setG g (s.mem.read ((s.C cs).cellAddr (s.rect rr).x (s.rect rr).y).toNat)) := by
  have hr := Canvas.reaches_iff.mpr ⟨Canvas.not_isNull_of_inCells hw hi, hi⟩
  rw [exec_of_require (exec_of_require (exec_of_require (exec_cldg g cs rr s) hw) hr) hf,
    State.loadWord_ok s (Canvas.cellAddr_inMem hw hf hi)]
  rfl

end

end Sys2Proof.Machine

namespace Sys2Proof.Proofs
open Sys2Proof.Machine

/-- Settles O25: the entries are determined by what is read and by the power-on content, and their order by the form. -/
theorem memoriesThatReadAlikeAreEqual : Obligations.MemoriesThatReadAlikeAreEqual := by
  intro m n hm hn hwords hpowerOn hread
  have hunlisted (a : Nat) : m.unlisted a = n.unlisted a := by rw [Memory.unlisted, Memory.unlisted, hpowerOn]
  have hcells : m.cells = n.cells := by
    refine cells_eq_of_mem_iff hm.1 hn.1 fun p => ?_
    rw [Memory.mem_cells_iff hm, Memory.mem_cells_iff hn, hread, hunlisted]
  cases m
  cases n
  simp_all

/-- Settles O26: the store changes MEM alone, so the second canvas and its point are as before it. -/
theorem aliasingIsVisibleAtOnce : Obligations.AliasingIsVisibleAtOnce := by
  intro s gs gd cs ct rr rq a hws hfs his hwt hft hit halias
  have ha : 0 ≤ a ∧ a < s.mem.words := Canvas.cellAddr_inMem hws hfs his
  refine ⟨_, exec_cstg_of_inCells gs hws hfs his, ?load, ?host⟩
  case load =>
    have hft' : ((s.setMem (s.mem.write a.toNat (s.G gs))).C ct).Fits (s.mem.write a.toNat (s.G gs)).words := by
      simpa only [State.setMem_C, Memory.write_words] using hft
    rw [exec_cldg_of_inCells (s := s.setMem (s.mem.write a.toNat (s.G gs))) gd hwt hft' hit, State.setMem_C,
      State.setMem_rect, halias, State.setMem_mem, Memory.read_write_self]
  case host =>
    intro b hb
    have hba : b.toNat = a.toNat := by omega
    have hin : b.toNat < (s.mem.write a.toNat (s.G gs)).words := by rw [Memory.write_words]; omega
    rw [perform_memRead_of_inside (s := s.setMem (s.mem.write a.toNat (s.G gs))) hin, State.setMem_mem, hba,
      Memory.read_write_self]

end Sys2Proof.Proofs
end

section
/-! PROOFS. The transforms as permutations of bits (spec/42_glyph_transform.md R113, R121 to R123; spec/40_glyph_pixel_lut.md
R84): the swap networks against the permutation table, the identities between them, what a permutation of bits keeps, and
the obligations. -/

namespace Sys2Proof.Machine

/-! ### Maps that move bits -/

section
variable {f f' : Word → Word} {src src' : Nat → Nat}

theorem MovesBits.id : MovesBits id id := fun _ _ _ => rfl

/-- One map after another: the source of the first is looked up at the source of the second. -/
theorem MovesBits.comp (hf : MovesBits f src) (hf' : MovesBits f' src') (hlt : ∀ i < 64, src i < 64) :
    MovesBits (fun g => f (f' g)) fun i => src' (src i) :=
  fun g i hi => (hf (f' g) i hi).trans (hf' g (src i) (hlt i hi))

/-- Maps that take each bit from the same place are equal. -/
theorem MovesBits.eq (hf : MovesBits f src) (hf' : MovesBits f' src') (hsrc : ∀ i < 64, src i = src' i) (g : Word) :
    f g = f' g :=
  BitVec.eq_of_getLsbD_eq fun i hi => by rw [hf g i hi, hf' g i hi, hsrc i hi]

theorem MovesBits.congr (hf : MovesBits f src) (hsrc : ∀ i < 64, src i = src' i) : MovesBits f src' :=
  fun g i hi => by rw [hf g i hi, hsrc i hi]

end

/-! ### The identities of the three networks (R121) -/

section
variable (g : Word)

theorem glyphFlip_glyphFlip : glyphFlip (glyphFlip g) = g :=
  (movesBits_glyphFlip.comp movesBits_glyphFlip (by decide)).eq .id (by decide) g

theorem glyphMirror_glyphMirror : glyphMirror (glyphMirror g) = g :=
  (movesBits_glyphMirror.comp movesBits_glyphMirror (by decide)).eq .id (by decide) g

theorem glyphTranspose_glyphTranspose : glyphTranspose (glyphTranspose g) = g :=
  (movesBits_glyphTranspose.comp movesBits_glyphTranspose (by decide)).eq .id (by decide) g

theorem glyphMirror_glyphFlip : glyphMirror (glyphFlip g) = glyphFlip (glyphMirror g) :=
  (movesBits_glyphMirror.comp movesBits_glyphFlip (by decide)).eq
    (movesBits_glyphFlip.comp movesBits_glyphMirror (by decide)) (by decide) g

theorem glyphTranspose_glyphFlip : glyphTranspose (glyphFlip g) = glyphMirror (glyphTranspose g) :=
  (movesBits_glyphTranspose.comp movesBits_glyphFlip (by decide)).eq
    (movesBits_glyphMirror.comp movesBits_glyphTranspose (by decide)) (by decide) g

/-! ### The rotations as compositions (R113) -/

theorem xf_three_eq : xf 3 g = glyphMirror (glyphFlip g) := rfl
theorem xf_five_eq : xf 5 g = glyphTranspose (glyphFlip g) := rfl
theorem xf_six_eq : xf 6 g = glyphTranspose (glyphMirror g) := rfl

theorem rotate180_rotate180 : xf 3 (xf 3 g) = g := by
  rw [xf_three_eq, xf_three_eq, ← glyphMirror_glyphFlip, glyphMirror_glyphMirror, glyphFlip_glyphFlip]

theorem rotate90_rotate90 : xf 6 (xf 6 g) = xf 3 g := by
  rw [xf_six_eq, xf_six_eq, ← glyphTranspose_glyphFlip, glyphTranspose_glyphTranspose, xf_three_eq,
    glyphMirror_glyphFlip]

theorem rotate90_rotate180 : xf 6 (xf 3 g) = xf 5 g := by
  rw [xf_six_eq, xf_three_eq, glyphMirror_glyphMirror, xf_five_eq]

end

/-! ### The networks against the table (R84) -/

/-- Each of the seven transforms takes bit `i` from where its row of the table says. -/
theorem movesBits_xf : ∀ k : Fin 7, MovesBits (xf (BitVec.ofNat 3 k.val)) (perm k.val)
  | 0 => fun _ _ _ => rfl
  | 1 => movesBits_glyphFlip.congr (by decide)
  | 2 => movesBits_glyphMirror.congr (by decide)
  | 3 => (movesBits_glyphMirror.comp movesBits_glyphFlip (by decide)).congr (by decide)
  | 4 => movesBits_glyphTranspose.congr (by decide)
  | 5 => (movesBits_glyphTranspose.comp movesBits_glyphFlip (by decide)).congr (by decide)
  | 6 => (movesBits_glyphTranspose.comp movesBits_glyphMirror (by decide)).congr (by decide)

theorem perm_lt (k : Nat) {i : Nat} (hi : i < 64) : perm k i < 64 :=
  Nat.lt_succ_of_le (perm_le k (Nat.le_of_lt_succ hi))

/-- A row names no source twice: the row and the column of the source are found from those of the bit and back. -/
theorem perm_injective (k : Nat) {i j : Nat} (hi : i < 64) (hj : j < 64) (h : perm k i = perm k j) : i = j := by
  revert h
  simp only [perm]
  split <;> omega

theorem perm_permutes (k : Nat) : ((List.range 64).map (perm k)).Perm (List.range 64) := by
  have hnodup : ((List.range 64).map (perm k)).Nodup :=
    List.nodup_range.map_on fun i hi j hj =>
      perm_injective k (List.mem_range.mp hi) (List.mem_range.mp hj)
  have hsubset : (List.range 64).map (perm k) ⊆ List.range 64 := by
    intro j hj
    obtain ⟨i, hi, rfl⟩ := List.mem_map.mp hj
    exact List.mem_range.mpr (perm_lt k (List.mem_range.mp hi))
  exact (List.subperm_of_subset hnodup hsubset).perm_of_length_le (by simp)

/-! ### What a permutation of bits keeps (R123) -/

section
variable {f : Word → Word} {src : Nat → Nat} (hf : MovesBits f src)
include hf

theorem MovesBits.and (a b : Word) : f (a &&& b) = f a &&& f b :=
  BitVec.eq_of_getLsbD_eq fun i hi => by
    rw [hf _ i hi, BitVec.getLsbD_and, BitVec.getLsbD_and, hf a i hi, hf b i hi]

theorem MovesBits.or (a b : Word) : f (a ||| b) = f a ||| f b :=
  BitVec.eq_of_getLsbD_eq fun i hi => by
    rw [hf _ i hi, BitVec.getLsbD_or, BitVec.getLsbD_or, hf a i hi, hf b i hi]

theorem MovesBits.xor (a b : Word) : f (a ^^^ b) = f a ^^^ f b :=
  BitVec.eq_of_getLsbD_eq fun i hi => by
    rw [hf _ i hi, BitVec.getLsbD_xor, BitVec.getLsbD_xor, hf a i hi, hf b i hi]

/-- The merge is made of the two operations before. -/
theorem MovesBits.merge (a b m : Word) : f (merge a b m) = merge (f a) (f b) (f m) := by
  rw [Machine.merge, hf.xor, hf.and, hf.xor, Machine.merge]

theorem MovesBits.zero : f 0 = 0 :=
  BitVec.eq_of_getLsbD_eq fun i hi => by
    rw [hf 0 i hi]
    exact BitVec.getLsbD_zero.trans BitVec.getLsbD_zero.symm

/-- Counted in the order of their sources the bits of the result are those of the argument. -/
theorem MovesBits.countP_eq (hperm : ((List.range 64).map src).Perm (List.range 64)) (a : Word) :
    (List.range 64).countP (fun i => (f a).getLsbD i) = (List.range 64).countP fun i => a.getLsbD i := by
  rw [← hperm.countP_eq fun i => a.getLsbD i, List.countP_map]
  exact List.countP_congr fun i hi => by rw [hf a i (List.mem_range.mp hi), Function.comp_apply]

variable (hlt : ∀ i < 64, src i < 64)
include hlt

theorem MovesBits.allOnes : f (BitVec.allOnes 64) = BitVec.allOnes 64 :=
  BitVec.eq_of_getLsbD_eq fun i hi => by
    rw [hf _ i hi, BitVec.getLsbD_allOnes, BitVec.getLsbD_allOnes, decide_eq_true (hlt i hi), decide_eq_true hi]

theorem MovesBits.not (a : Word) : f (~~~a) = ~~~(f a) :=
  BitVec.eq_of_getLsbD_eq fun i hi => by
    rw [hf _ i hi, BitVec.getLsbD_not, BitVec.getLsbD_not, hf a i hi, decide_eq_true (hlt i hi), decide_eq_true hi]

end

end Sys2Proof.Machine

namespace Sys2Proof.Proofs
open Sys2Proof.Machine

/-- Settles O31: the networks move the bits as the table says, each row is a permutation, and the pixel maps are those of
the stages. -/
theorem swapNetworksAgreeWithTheTable : Obligations.SwapNetworksAgreeWithTheTable :=
  ⟨movesBits_xf, fun k => perm_permutes k.val, fun g => ⟨fun _ _ _ _ => rfl, pixels_glyphFlip g, pixels_glyphMirror g,
    pixels_rotate180 g, pixels_glyphTranspose g, pixels_rotate270 g, pixels_rotate90 g⟩⟩

/-- Settles O33: the identities of the three networks, and those of the rotations that follow from them. -/
theorem transformIdentities : Obligations.TransformIdentities := by
  intro g
  have hfour : xf 6 (xf 6 (xf 6 (xf 6 g))) = g := by
    rw [rotate90_rotate90, rotate90_rotate90, rotate180_rotate180]
  exact ⟨glyphFlip_glyphFlip g, glyphMirror_glyphMirror g, glyphTranspose_glyphTranspose g, hfour,
    rotate180_rotate180 g, (rotate90_rotate90 g).symm, (rotate90_rotate180 g).symm, glyphMirror_glyphFlip g,
    glyphTranspose_glyphFlip g, xf_six_eq g, xf_three_eq g, xf_five_eq g⟩

/-- Settles O34: each transform moves bits, and its row of the table is a permutation. -/
theorem transformsArePermutationsOfBits : Obligations.TransformsArePermutationsOfBits := by
  intro k a b m f
  have hf : MovesBits f (perm k.val) := movesBits_xf k
  have hlt : ∀ i < 64, perm k.val i < 64 := fun i => perm_lt k.val
  exact ⟨hf.countP_eq (perm_permutes k.val) a, hf.zero, hf.allOnes hlt, hf.and a b, hf.or a b, hf.xor a b,
    hf.not hlt a, hf.merge a b m⟩

end Sys2Proof.Proofs
end

section
/-! PROOFS. Quadrants (spec/41_glyph_compose.md): the pixels of the masks, of the halves and of the composed glyph, each
quadrant read back through its mask, and the obligations of the family. -/

namespace Sys2Proof.Machine

/-! ### Glyphs and their pixels (R9) -/

/-- A glyph is its 64 pixels: bit `i` is the pixel in column `7 - i mod 8` of row `7 - i div 8`. -/
theorem eq_of_px {a b : Word} (h : ∀ x y, x < 8 → y < 8 → px a x y = px b x y) : a = b := by
  refine BitVec.eq_of_getLsbD_eq fun i hi => ?_
  have hbit : bitOf (7 - i % 8) (7 - i / 8) = i := by unfold bitOf; omega
  have hpx := h (7 - i % 8) (7 - i / 8) (by omega) (by omega)
  rwa [px, px, hbit] at hpx

theorem px_and (a b : Word) (x y : Nat) : px (a &&& b) x y = (px a x y && px b x y) := BitVec.getLsbD_and

theorem px_zero (x y : Nat) : px 0 x y = false := BitVec.getLsbD_zero

theorem px_ite (c : Bool) (v : Word) (x y : Nat) : px (if c then v else 0) x y = (c && px v x y) := by
  cases c with
  | true => rfl
  | false => exact px_zero x y

/-! ### The quadrant masks (R100, R102) -/

theorem px_topLeft : ∀ x < 8, ∀ y < 8, px 0xF0F0F0F000000000 x y = (decide (x < 4) && decide (y < 4)) := by decide
theorem px_topRight : ∀ x < 8, ∀ y < 8, px 0x0F0F0F0F00000000 x y = (!decide (x < 4) && decide (y < 4)) := by decide
theorem px_bottomLeft : ∀ x < 8, ∀ y < 8, px 0x00000000F0F0F0F0 x y = (decide (x < 4) && !decide (y < 4)) := by decide
theorem px_bottomRight : ∀ x < 8, ∀ y < 8, px 0x000000000F0F0F0F x y = (!decide (x < 4) && !decide (y < 4)) := by decide

/-- A pixel is in the mask when the quadrant that it lies in is selected. -/
theorem pixels_quadrantMask (m : Nibble) :
    Pixels (quadrantMask m) fun x y => m.getLsbD ((if x < 4 then 0 else 1) + (if y < 4 then 0 else 2)) := by
  intro x y hx hy
  simp only [quadrantMask, px_or, px_ite, px_topLeft x hx y hy, px_topRight x hx y hy, px_bottomLeft x hx y hy,
    px_bottomRight x hx y hy]
  by_cases hleft : x < 4 <;> by_cases htop : y < 4 <;> simp [hleft, htop]

theorem exec_gmask (gd : GReg) (m : Nibble) (s : State) :
    exec (.gmask gd m) s = .next (s.setG gd (quadrantMask m)) := rfl

/-! ### The bits of halves and of the composed glyph (R103 to R105) -/

theorem getLsbD_append_nibble {n : Nat} (v : BitVec n) (b : BitVec 4) (i : Nat) :
    (v ++ b).getLsbD i = if i < 4 then b.getLsbD i else v.getLsbD (i - 4) := BitVec.getLsbD_append

theorem getLsbD_quadRow (q : Quadrant) (j : Nat) {b : Nat} (hb : b < 4) :
    (quadRow q j).getLsbD b = q.getLsbD (12 - 4 * j + b) := by
  rw [quadRow, BitVec.getLsbD_extractLsb', decide_eq_true hb, Bool.true_and]

/-- Each of the 32 bits of a wide half stands in one of its eight nibbles, a row of one of the two quadrants. -/
theorem getLsbD_wideHalf (l r : Quadrant) {x y : Nat} (hx : x < 8) (hy : y < 4) :
    (wideHalf l r).getLsbD (31 - x - 8 * y) =
      if x < 4 then l.getLsbD (15 - x - 4 * y) else r.getLsbD (15 - (x - 4) - 4 * y) := by
  interval_cases y <;> interval_cases x <;>
    simp only [wideHalf, getLsbD_append_nibble, getLsbD_quadRow, Nat.reduceSub, Nat.reduceMul, Nat.reduceAdd,
      Nat.reduceLT, reduceIte]

theorem getLsbD_tallHalf (top bottom : Quadrant) {x y : Nat} (hx : x < 4) (hy : y < 8) :
    (tallHalf top bottom).getLsbD (31 - x - 4 * y) =
      if y < 4 then top.getLsbD (15 - x - 4 * y) else bottom.getLsbD (15 - x - 4 * (y - 4)) := by
  refine BitVec.getLsbD_append.trans ?_
  by_cases h : y < 4
  · have hhigh : ¬31 - x - 4 * y < 16 := by omega
    have hbit : 31 - x - 4 * y - 16 = 15 - x - 4 * y := by omega
    rw [if_pos h, if_neg hhigh, hbit]
  · have hlow : 31 - x - 4 * y < 16 := by omega
    have hbit : 31 - x - 4 * y = 15 - x - 4 * (y - 4) := by omega
    rw [if_neg h, if_pos hlow, hbit]

theorem getLsbD_halfWord (h : Half) {i : Nat} (hi : i < 32) : (halfWord h).getLsbD i = h.getLsbD i := by
  have hlt : i < 64 := by omega
  rw [halfWord, BitVec.getLsbD_setWidth, decide_eq_true hlt, Bool.true_and]

theorem halfWord_lt (h : Half) : (halfWord h).toNat < 2 ^ 32 := by
  rw [halfWord, BitVec.toNat_setWidth_of_le (by decide)]
  exact h.isLt

/-- The glyph is the top wide half over the bottom one. -/
theorem px_glyph4 (tl tr bl br : Quadrant) {x y : Nat} (hx : x < 8) (hy : y < 8) : px (glyph4 tl tr bl br) x y =
    if y < 4 then (if x < 4 then tl.getLsbD (15 - x - 4 * y) else tr.getLsbD (15 - (x - 4) - 4 * y))
    else (if x < 4 then bl.getLsbD (15 - x - 4 * (y - 4)) else br.getLsbD (15 - (x - 4) - 4 * (y - 4))) := by
  refine BitVec.getLsbD_append.trans ?_
  by_cases h : y < 4
  · have hhigh : ¬bitOf x y < 32 := by unfold bitOf; omega
    have hbit : bitOf x y - 32 = 31 - x - 8 * y := by unfold bitOf; omega
    rw [if_pos h, if_neg hhigh, hbit, getLsbD_wideHalf tl tr hx h]
  · have hlow : bitOf x y < 32 := by unfold bitOf; omega
    have hbit : bitOf x y = 31 - x - 8 * (y - 4) := by unfold bitOf; omega
    rw [if_neg h, if_pos hlow, hbit, getLsbD_wideHalf bl br hx (by omega)]

/-- A quadrant operand reads the low 16 bits of its register (R101). -/
theorem State.getLsbD_quad (s : State) (i : GReg) {j : Nat} (hj : j < 16) : (s.quad i).getLsbD j = (s.G i).getLsbD j := by
  rw [State.quad, BitVec.getLsbD_extractLsb', decide_eq_true hj, Bool.true_and, Nat.zero_add]

/-! ### Reading the quadrants back (R106) -/

section
variable (a b c d : Quadrant)

/-- A mask leaves the quadrants that it selects and clears the others. -/
theorem glyph4_and_quadrantMask (m : Nibble) : glyph4 a b c d &&& quadrantMask m =
    glyph4 (if m.getLsbD 0 then a else 0) (if m.getLsbD 1 then b else 0) (if m.getLsbD 2 then c else 0)
      (if m.getLsbD 3 then d else 0) := by
  have hite (k : Bool) (q : Quadrant) (i : Nat) : (if k then q else 0).getLsbD i = (q.getLsbD i && k) := by
    cases k <;> simp
  refine eq_of_px fun x y hx hy => ?_
  rw [px_and, pixels_quadrantMask m x y hx hy, px_glyph4 _ _ _ _ hx hy, px_glyph4 _ _ _ _ hx hy]
  by_cases htop : y < 4 <;> by_cases hleft : x < 4 <;> simp only [htop, hleft, if_true, if_false, hite]

theorem glyph4_top : (glyph4 a b c d).extractLsb' 32 32 = wideHalf a b :=
  (BitVec.extractLsb'_append_eq_of_le (show 32 ≤ 32 from le_rfl)).trans BitVec.extractLsb'_eq_self

theorem glyph4_bottom : (glyph4 a b c d).extractLsb' 0 32 = wideHalf c d :=
  (BitVec.extractLsb'_append_eq_of_add_le le_rfl).trans BitVec.extractLsb'_eq_self

end

/-- Bit `j` of a quadrant is its pixel in column `3 - j mod 4` of row `3 - j div 4` (R10). -/
theorem quadrant_eq_of_pixels {a b : Quadrant}
    (h : ∀ x y, x < 4 → y < 4 → a.getLsbD (15 - x - 4 * y) = b.getLsbD (15 - x - 4 * y)) : a = b := by
  refine BitVec.eq_of_getLsbD_eq fun j hj => ?_
  have hbit : 15 - (3 - j % 4) - 4 * (3 - j / 4) = j := by omega
  have hpx := h (3 - j % 4) (3 - j / 4) (by omega) (by omega)
  rwa [hbit] at hpx

/-- The columns 0 to 3 of a wide half are the left quadrant, the columns 4 to 7 the right one. -/
theorem wideHalf_injective {a b a' b' : Quadrant} (h : wideHalf a' b' = wideHalf a b) : a' = a ∧ b' = b := by
  have hbits (x y : Nat) (hx : x < 8) (hy : y < 4) := congrArg (fun v => v.getLsbD (31 - x - 8 * y)) h
  constructor
  · refine quadrant_eq_of_pixels fun x y hx hy => ?_
    have hbit := hbits x y (by omega) hy
    simpa only [getLsbD_wideHalf _ _ (show x < 8 by omega) hy, if_pos hx] using hbit
  · refine quadrant_eq_of_pixels fun x y hx hy => ?_
    have hbit := hbits (x + 4) y (by omega) hy
    have hright : ¬x + 4 < 4 := by omega
    simpa only [getLsbD_wideHalf _ _ (show x + 4 < 8 by omega) hy, if_neg hright, Nat.add_sub_cancel] using hbit

theorem glyph4_injective {a b c d a' b' c' d' : Quadrant} (h : glyph4 a' b' c' d' = glyph4 a b c d) :
    a' = a ∧ b' = b ∧ c' = c ∧ d' = d := by
  have htop : wideHalf a' b' = wideHalf a b := by rw [← glyph4_top a' b' c' d', h, glyph4_top]
  have hbottom : wideHalf c' d' = wideHalf c d := by rw [← glyph4_bottom a' b' c' d', h, glyph4_bottom]
  obtain ⟨ha, hb⟩ := wideHalf_injective htop
  obtain ⟨hc, hd⟩ := wideHalf_injective hbottom
  exact ⟨ha, hb, hc, hd⟩

/-! ### The commands (R103 to R105) -/

section
variable (gd g1 g2 g3 g4 : GReg) (s : State)

theorem exec_glyph4 : exec (.glyph4 gd g1 g2 g3 g4) s =
    .next (s.setG gd (glyph4 (s.quad g1) (s.quad g2) (s.quad g3) (s.quad g4))) := rfl

theorem exec_tallhalf2 : exec (.tallhalf2 gd g1 g2) s =
    .next (s.setG gd (halfWord (tallHalf (s.quad g1) (s.quad g2)))) := rfl

theorem exec_widehalf2 : exec (.widehalf2 gd g1 g2) s =
    .next (s.setG gd (halfWord (wideHalf (s.quad g1) (s.quad g2)))) := rfl

end

end Sys2Proof.Machine

namespace Sys2Proof.Proofs
open Sys2Proof.Machine

/-- Settles O35: what is written is the mask, whose pixels are those of the selected quadrants. -/
theorem gmaskIsTheUnionOfQuadrants : Obligations.GmaskIsTheUnionOfQuadrants :=
  fun gd m s => ⟨hasWord_encode rfl, exec_gmask gd m s, pixels_quadrantMask m⟩

/-- Settles O36: each command by the glyph or half it composes, whose bits are those of the sources' low 16. -/
theorem composeFromQuadrants : Obligations.ComposeFromQuadrants := by
  intro gd g1 g2 g3 g4 s q
  have hquad (g : GReg) (x y : Nat) : (s.quad g).getLsbD (15 - x - 4 * y) = q g x y := s.getLsbD_quad g (by omega)
  refine ⟨hasWord_encode rfl, hasWord_encode rfl, hasWord_encode rfl, ⟨_, exec_glyph4 gd g1 g2 g3 g4 s, ?glyph⟩,
    ⟨_, exec_tallhalf2 gd g1 g2 s, halfWord_lt _, ?tall⟩, ⟨_, exec_widehalf2 gd g1 g2 s, halfWord_lt _, ?wide⟩⟩
  case glyph =>
    intro x y hx hy
    simp only [px_glyph4 _ _ _ _ hx hy, hquad]
  case tall =>
    intro x y hx hy
    rw [getLsbD_halfWord _ (by omega), getLsbD_tallHalf _ _ hx hy, hquad, hquad]
  case wide =>
    intro x y hx hy
    rw [getLsbD_halfWord _ (by omega), getLsbD_wideHalf _ _ hx hy, hquad, hquad]

/-- Settles O37: the four masks of one quadrant, the two halves, and the halves' bits. -/
theorem quadrantsReadBackThroughTheirMasks : Obligations.QuadrantsReadBackThroughTheirMasks := by
  intro a b c d g
  have hmask := glyph4_and_quadrantMask a b c d
  exact ⟨hmask 1, hmask 2, hmask 4, hmask 8, glyph4_top a b c d, glyph4_bottom a b c d,
    fun _ _ _ _ => glyph4_injective, by decide⟩

end Sys2Proof.Proofs
end

section
/-! PROOFS. The laws between glyph operations: the measures under the transforms (spec/43_glyph_measure.md R138), the
masked merge (spec/44_glyph_merge.md R142, R143), shifts and cycles (spec/45_glyph_shift.md R155); and the obligations. -/

namespace Sys2Proof.Machine

/-! ### Measures under the transforms (R138) -/

/-- There is one number of positions before the first that holds. -/
theorem IsLeadingCount.unique {p : Nat → Prop} {size n m : Nat} (hn : IsLeadingCount p size n)
    (hm : IsLeadingCount p size m) : n = m := by
  have hle {a b : Nat} (ha : IsLeadingCount p size a) (hb : IsLeadingCount p size b) : a ≤ b := by
    by_contra hlt
    exact ha.empty b (by omega) (hb.next (lt_of_lt_of_le (by omega) ha.le))
  exact le_antisymm (hle hn hm) (hle hm hn)

section
variable (g : Word) {x y : Nat}

theorem px_glyphFlip (hx : x < 8) (hy : y < 8) : px (glyphFlip g) x y = px g x (7 - y) := pixels_glyphFlip g x y hx hy
theorem px_glyphMirror (hx : x < 8) (hy : y < 8) : px (glyphMirror g) x y = px g (7 - x) y :=
  pixels_glyphMirror g x y hx hy
theorem px_glyphTranspose (hx : x < 8) (hy : y < 8) : px (glyphTranspose g) x y = px g y x :=
  pixels_glyphTranspose g x y hx hy

theorem rowSet_glyphFlip (hy : y < 8) : RowSet (glyphFlip g) y ↔ RowSet g (7 - y) :=
  exists_congr fun _ => and_congr_right fun hx => by rw [px_glyphFlip g hx hy]

theorem colSet_glyphMirror (hx : x < 8) : ColSet (glyphMirror g) x ↔ ColSet g (7 - x) :=
  exists_congr fun _ => and_congr_right fun hy => by rw [px_glyphMirror g hx hy]

theorem rowSet_glyphTranspose (hy : y < 8) : RowSet (glyphTranspose g) y ↔ ColSet g y :=
  exists_congr fun _ => and_congr_right fun hx => by rw [px_glyphTranspose g hx hy]

theorem marginTop_glyphFlip : marginTop (glyphFlip g) = marginBottom g :=
  ((isLeadingCount_marginTop (glyphFlip g)).congr fun _ => rowSet_glyphFlip g).unique (isLeadingCount_marginBottom g)

theorem marginLeft_glyphMirror : marginLeft (glyphMirror g) = marginRight g :=
  ((isLeadingCount_marginLeft (glyphMirror g)).congr fun _ => colSet_glyphMirror g).unique
    (isLeadingCount_marginRight g)

theorem marginTop_glyphTranspose : marginTop (glyphTranspose g) = marginLeft g :=
  ((isLeadingCount_marginTop (glyphTranspose g)).congr fun _ => rowSet_glyphTranspose g).unique
    (isLeadingCount_marginLeft g)

theorem marginBottom_glyphTranspose : marginBottom (glyphTranspose g) = marginRight g :=
  ((isLeadingCount_marginBottom (glyphTranspose g)).congr fun _ _ => rowSet_glyphTranspose g (by omega)).unique
    (isLeadingCount_marginRight g)

theorem glyphTranspose_eq_zero_iff : glyphTranspose g = 0 ↔ g = 0 := by
  have hzero : glyphTranspose 0 = 0 := movesBits_glyphTranspose.zero
  refine ⟨fun h => ?_, fun h => h ▸ hzero⟩
  rw [← glyphTranspose_glyphTranspose g, h, hzero]

theorem glyphHeight_glyphTranspose : glyphHeight (glyphTranspose g) = glyphWidth g := by
  simp only [glyphHeight, glyphWidth, glyphTranspose_eq_zero_iff, marginTop_glyphTranspose,
    marginBottom_glyphTranspose]

/-- The same relation read from the transposed glyph. -/
theorem glyphWidth_glyphTranspose : glyphWidth (glyphTranspose g) = glyphHeight g := by
  rw [← glyphHeight_glyphTranspose, glyphTranspose_glyphTranspose]

end

/-! ### The merge (R142, R143) -/

section
variable (a b c m : Word)

theorem merge_right_mask : merge a b b = a ||| b :=
  BitVec.eq_of_getLsbD_eq fun i _ => by
    rw [getLsbD_merge, BitVec.getLsbD_or]
    cases b.getLsbD i <;> simp

theorem merge_left_mask : merge b a b = b &&& a :=
  BitVec.eq_of_getLsbD_eq fun i _ => by
    rw [getLsbD_merge, BitVec.getLsbD_and]
    cases b.getLsbD i <;> simp

theorem merge_not : merge a (~~~a) m = a ^^^ m :=
  BitVec.eq_of_getLsbD_eq fun i hi => by
    rw [getLsbD_merge, BitVec.getLsbD_xor, BitVec.getLsbD_not]
    cases m.getLsbD i <;> simp [hi]

theorem merge_swap : merge a b m = merge b a (~~~m) :=
  BitVec.eq_of_getLsbD_eq fun i hi => by
    rw [getLsbD_merge, getLsbD_merge, BitVec.getLsbD_not]
    cases m.getLsbD i <;> simp [hi]

theorem merge_self : merge a a m = a := by
  rw [merge, BitVec.xor_self, BitVec.zero_and, BitVec.xor_zero]

theorem merge_merge : merge (merge a b m) c m = merge a c m :=
  BitVec.eq_of_getLsbD_eq fun i _ => by
    rw [getLsbD_merge, getLsbD_merge, getLsbD_merge]
    cases m.getLsbD i <;> simp

theorem merge_and_mask : merge a b m &&& m = b &&& m :=
  BitVec.eq_of_getLsbD_eq fun i _ => by
    rw [BitVec.getLsbD_and, BitVec.getLsbD_and, getLsbD_merge]
    cases m.getLsbD i <;> simp

theorem merge_and_not_mask : merge a b m &&& ~~~m = a &&& ~~~m :=
  BitVec.eq_of_getLsbD_eq fun i _ => by
    rw [BitVec.getLsbD_and, BitVec.getLsbD_and, getLsbD_merge, BitVec.getLsbD_not]
    cases m.getLsbD i <;> simp

end

/-! ### Shifts and cycles (R155) -/

section
variable (g : Word) {n : Nat}

theorem px_rep8_shRMask (n : Nat) {x y : Nat} (hx : x < 8) (hy : y < 8) : px (rep8 (0xFF#64 >>> n)) x y = decide (n ≤ x) := by
  rw [px, getLsbD_shRMask n (bitOf_lt x y), bitOf_mod_eight hx hy]
  exact decide_eq_decide.mpr (by omega)

theorem px_allOnes_shift (n : Nat) {x y : Nat} (hx : x < 8) (hy : y < 8) :
    px (0xFFFFFFFFFFFFFFFF#64 >>> (8 * n)) x y = decide (n ≤ y) := by
  have hones : 0xFFFFFFFFFFFFFFFF#64 = BitVec.allOnes 64 := rfl
  rw [px, hones, BitVec.getLsbD_ushiftRight, BitVec.getLsbD_allOnes]
  exact decide_eq_decide.mpr (by unfold bitOf; omega)

/-- Columns that leave at the left are lost, and the others come back. -/
theorem shR_shL (n : Nat) : shR (shL g n) n = g &&& rep8 (0xFF#64 >>> n) := by
  refine eq_of_px fun x y hx hy => ?_
  rw [px_shR _ n hx hy, px_and, px_rep8_shRMask n hx hy]
  split
  case isTrue h =>
    have hback : x - n + n = x := Nat.sub_add_cancel h
    rw [px_shL g n (by omega) hy, hback, if_pos (by omega), decide_eq_true h, Bool.and_true]
  case isFalse h => rw [decide_eq_false h, Bool.and_false]

/-- Rows that leave at the top are lost, and the others come back. -/
theorem shD_shU (n : Nat) : shD (shU g n) n = g &&& (0xFFFFFFFFFFFFFFFF#64 >>> (8 * n)) := by
  refine eq_of_px fun x y hx hy => ?_
  rw [px_shD _ n hx hy, px_and, px_allOnes_shift n hx hy]
  split
  case isTrue h =>
    have hback : y - n + n = y := Nat.sub_add_cancel h
    rw [px_shU g n hx (by omega), hback, if_pos (by omega), decide_eq_true h, Bool.and_true]
  case isFalse h => rw [decide_eq_false h, Bool.and_false]

theorem glyphMirror_shL (n : Nat) : glyphMirror (shL g n) = shR (glyphMirror g) n := by
  refine eq_of_px fun x y hx hy => ?_
  rw [px_glyphMirror _ hx hy, px_shL g n (by omega) hy, px_shR _ n hx hy]
  by_cases h : n ≤ x
  · have hsrc : 7 - x + n = 7 - (x - n) := by omega
    rw [if_pos h, if_pos (by omega), px_glyphMirror g (by omega) hy, hsrc]
  · rw [if_neg h, if_neg (by omega)]

theorem glyphFlip_shU (n : Nat) : glyphFlip (shU g n) = shD (glyphFlip g) n := by
  refine eq_of_px fun x y hx hy => ?_
  rw [px_glyphFlip _ hx hy, px_shU g n hx (by omega), px_shD _ n hx hy]
  by_cases h : n ≤ y
  · have hsrc : 7 - y + n = 7 - (y - n) := by omega
    rw [if_pos h, if_pos (by omega), px_glyphFlip g hx (by omega), hsrc]
  · rw [if_neg h, if_neg (by omega)]

theorem glyphTranspose_shL (n : Nat) : glyphTranspose (shL g n) = shU (glyphTranspose g) n := by
  refine eq_of_px fun x y hx hy => ?_
  rw [px_glyphTranspose _ hx hy, px_shL g n hy hx, px_shU _ n hx hy]
  by_cases h : y + n ≤ 7
  · rw [if_pos h, if_pos h, px_glyphTranspose g hx (by omega)]
  · rw [if_neg h, if_neg h]

variable (hn : n ≤ 7)
include hn

theorem cyL_eq_cyR : cyL g n = cyR g ((8 - n) % 8) := by
  refine eq_of_px fun x y hx hy => ?_
  have hsrc : (x + n) % 8 = (x + 8 - (8 - n) % 8) % 8 := by omega
  rw [px_cyL g hn hx hy, px_cyR g (by omega) hx hy, hsrc]

theorem cyU_eq_cyD : cyU g n = cyD g ((8 - n) % 8) := by
  refine eq_of_px fun x y hx hy => ?_
  have hsrc : (y + n) % 8 = (y + 8 - (8 - n) % 8) % 8 := by omega
  rw [px_cyU g hn hx hy, px_cyD g (by omega) hx hy, hsrc]

theorem cyR_cyL : cyR (cyL g n) n = g := by
  refine eq_of_px fun x y hx hy => ?_
  have hback : ((x + 8 - n) % 8 + n) % 8 = x := by omega
  rw [px_cyR _ hn hx hy, px_cyL g hn (by omega) hy, hback]

theorem cyD_cyU : cyD (cyU g n) n = g := by
  refine eq_of_px fun x y hx hy => ?_
  have hback : ((y + 8 - n) % 8 + n) % 8 = y := by omega
  rw [px_cyD _ hn hx hy, px_cyU g hn hx (by omega), hback]

theorem glyphMirror_cyL : glyphMirror (cyL g n) = cyR (glyphMirror g) n := by
  refine eq_of_px fun x y hx hy => ?_
  have hsrc : (7 - x + n) % 8 = 7 - (x + 8 - n) % 8 := by omega
  rw [px_glyphMirror _ hx hy, px_cyL g hn (by omega) hy, px_cyR _ hn hx hy, px_glyphMirror g (by omega) hy, hsrc]

theorem glyphFlip_cyU : glyphFlip (cyU g n) = cyD (glyphFlip g) n := by
  refine eq_of_px fun x y hx hy => ?_
  have hsrc : (7 - y + n) % 8 = 7 - (y + 8 - n) % 8 := by omega
  rw [px_glyphFlip _ hx hy, px_cyU g hn hx (by omega), px_cyD _ hn hx hy, px_glyphFlip g hx (by omega), hsrc]

theorem glyphTranspose_cyL : glyphTranspose (cyL g n) = cyU (glyphTranspose g) n := by
  refine eq_of_px fun x y hx hy => ?_
  rw [px_glyphTranspose _ hx hy, px_cyL g hn hy hx, px_cyU _ hn hx hy, px_glyphTranspose g hx (by omega)]

end

end Sys2Proof.Machine

namespace Sys2Proof.Proofs
open Sys2Proof.Machine

/-- Settles O41: the nine glyphs by evaluation, the relations by the lines that a transform exchanges. -/
theorem measuresOfTableAndTransforms : Obligations.MeasuresOfTableAndTransforms :=
  ⟨by decide, fun g => ⟨marginTop_glyphFlip g, marginLeft_glyphMirror g, marginTop_glyphTranspose g,
    glyphWidth_glyphTranspose g⟩⟩

/-- Settles O43: each law bit by bit under the mask, and the two commands by the first two laws. -/
theorem mergeLaws : Obligations.MergeLaws := by
  refine ⟨fun a b c m => ?laws, fun gd ga gb s => ?commands⟩
  case laws =>
    exact ⟨merge_right_mask a b, (merge_left_mask a b).trans (BitVec.and_comm b a), merge_not a m, merge_swap a b m,
      merge_self a m, merge_merge a b c m, merge_and_mask a b m, merge_and_not_mask a b m,
      fun _ _ hP => MovesBits.merge hP a b m⟩
  case commands =>
    rw [exec_gmerge, exec_gmerge, merge_right_mask, merge_left_mask, BitVec.and_comm]
    exact ⟨rfl, rfl⟩

/-- Settles O46: each law pixel by pixel. -/
theorem shiftAndCycleLaws : Obligations.ShiftAndCycleLaws := fun g n hn =>
  ⟨cyL_eq_cyR g hn, cyU_eq_cyD g hn, cyR_cyL g hn, cyD_cyU g hn, shR_shL g n, shD_shU g n, glyphMirror_shL g n,
    glyphFlip_shU g n, glyphTranspose_shL g n, glyphMirror_cyL g hn, glyphFlip_cyU g hn, glyphTranspose_cyL g hn⟩

end Sys2Proof.Proofs
end

section
/-! PROOFS. `Clip` of a rectangle that lies inside the bounds (spec/46_rect_clipper.md R168), and the obligation. -/

namespace Sys2Proof.Machine

theorem clampInt_of_mem {v n : Int} (h0 : 0 ≤ v) (hn : v ≤ n) : clampInt v 0 n = v := by
  rw [clampInt_zero_eq (h0.trans hn), min_eq_left hn, max_eq_right h0]

section
variable {q r : IRect} {W H : Int}

/-- The regular form of the normalized absolute form is the normalized rectangle (R162, R166). -/
theorem toRegular_absNormal (q : IRect) : toRegular (absNormal q) = normalizeRect q := by
  have hside (p l : Int) : min p (p + l) = (if l < 0 then p + l else p) ∧
      max p (p + l) - min p (p + l) = if l < 0 then -l else l := by
    split <;> omega
  obtain ⟨hx, hw⟩ := hside q.x q.w
  obtain ⟨hy, hh⟩ := hside q.y q.h
  exact (IRect.mk.injEq ..).mpr ⟨hx, hy, hw, hh⟩

/-- Inside the bounds there is nothing to clamp. -/
theorem clamped_absNormal_of_inside (hx : 0 ≤ min q.x (q.x + q.w) ∧ max q.x (q.x + q.w) ≤ W)
    (hy : 0 ≤ min q.y (q.y + q.h) ∧ max q.y (q.y + q.h) ≤ H) : clamped (absNormal q) W H = normalizeRect q := by
  have hleX : min q.x (q.x + q.w) ≤ max q.x (q.x + q.w) := min_le_max
  have hleY : min q.y (q.y + q.h) ≤ max q.y (q.y + q.h) := min_le_max
  rw [← toRegular_absNormal]
  simp only [clamped, absNormal, toRegular, clampInt_of_mem hx.1 (hleX.trans hx.2),
    clampInt_of_mem (hx.1.trans hleX) hx.2, clampInt_of_mem hy.1 (hleY.trans hy.2),
    clampInt_of_mem (hy.1.trans hleY) hy.2]

/-- A normalized rectangle with a cell, inside bounds that are 32-bit integers, is its own clip. -/
theorem clip_of_inside (hW : W ≤ 2 ^ 31 - 1) (hH : H ≤ 2 ^ 31 - 1) (hx : 0 ≤ r.x ∧ 0 < r.w ∧ r.x + r.w ≤ W)
    (hy : 0 ≤ r.y ∧ 0 < r.h ∧ r.y + r.h ≤ H) : clip r W H = .ok (true, r) := by
  have hcell : ∃ i j, CommonCell r W H i j := ⟨r.x, r.y, by omega⟩
  have hclip : clip r W H = .ok (true, clamped (absNormal r) W H) := clip_of_common (by omega) hcell
  rw [hclip, clamped_absNormal_of_inside (by omega) (by omega), normalizeRect_of_nonneg hx.2.1.le hy.2.1.le]

end

end Sys2Proof.Machine

namespace Sys2Proof.Proofs
open Sys2Proof.Machine

/-- Settles O50: a true result lies inside the bounds, and so does, by hypothesis, the rectangle of the second part. -/
theorem clippedRectanglesStayAsTheyAre : Obligations.ClippedRectanglesStayAsTheyAre := by
  intro q r W H hclip
  obtain ⟨-, hcell, rfl⟩ := clip_eq_true hclip
  obtain ⟨-, hx, hy, hw, -, hh, -, hxW, hyH⟩ := clamped_absNormal_spec hcell
  exact ⟨fun hW hH => clip_of_inside hW hH ⟨hx, hw, hxW⟩ ⟨hy, hh, hyH⟩,
    fun hx0 hxW hy0 hyH => clamped_absNormal_of_inside ⟨hx0, hxW⟩ ⟨hy0, hyH⟩⟩

end Sys2Proof.Proofs
end

section
/-! PROOFS. The line of CLINE (spec/47_canvas.md section 6; log 7): the reference stepper in closed form, on each axis the
ideal line rounded to the nearest point, the properties of R195, and the two obligations. -/

namespace Sys2Proof.Machine

/-! ### The offset on one axis -/

/-- The number of moves on an axis of length `l` after `k` of the `m` moves of the line: `k * l / m`, rounded to the
nearest and halves up. -/
def lineOffset (m l k : Nat) : Nat := (2 * (k * l) + m) / (2 * m)

section
variable {m l k : Nat}

theorem lineOffset_bounds (hm : 0 < m) :
    2 * (lineOffset m l k * m) ≤ 2 * (k * l) + m ∧ 2 * (k * l) + m < 2 * (lineOffset m l k * m) + 2 * m := by
  have hpos : 0 < 2 * m := by omega
  have hdiv := Nat.div_add_mod (2 * (k * l) + m) (2 * m)
  have hmod := Nat.mod_lt (2 * (k * l) + m) hpos
  rw [← lineOffset, Nat.mul_assoc, Nat.mul_comm m] at hdiv
  omega

theorem lineOffset_eq {b : Nat} (hlo : 2 * (b * m) ≤ 2 * (k * l) + m) (hhi : 2 * (k * l) + m < 2 * (b * m) + 2 * m) :
    lineOffset m l k = b := by
  refine Nat.div_eq_of_lt_le ?_ ?_
  · linarith
  · linarith

theorem lineOffset_zero : lineOffset m l 0 = 0 := by
  rw [lineOffset, Nat.zero_mul, Nat.div_eq_zero_iff]
  omega

/-- An axis on which the line does not extend. -/
theorem lineOffset_of_length_zero : lineOffset m 0 k = 0 := by
  rw [lineOffset, Nat.mul_zero, Nat.div_eq_zero_iff]
  omega

/-- On the longer axis every move counts. -/
theorem lineOffset_self (hk : k ≤ m) : lineOffset m m k = k := by
  rcases Nat.eq_zero_or_pos m with rfl | hm
  · rw [lineOffset, Nat.mul_zero, Nat.div_zero]
    omega
  · exact lineOffset_eq (by omega) (by omega)

theorem lineOffset_last (hl : l ≤ m) : lineOffset m l m = l := by
  rcases Nat.eq_zero_or_pos m with rfl | hm
  · rw [lineOffset, Nat.mul_zero, Nat.div_zero]
    omega
  · have hcomm : l * m = m * l := Nat.mul_comm l m
    exact lineOffset_eq (by omega) (by omega)

/-- The next move counts on this axis when the ideal line has then passed the middle between two points. -/
theorem lineOffset_succ (hl : l ≤ m) (hm : 0 < m) : lineOffset m l (k + 1) =
    lineOffset m l k + if 2 * (lineOffset m l k * m) + m ≤ 2 * (k * l) + 2 * l then 1 else 0 := by
  obtain ⟨hlo, hhi⟩ := lineOffset_bounds (l := l) (k := k) hm
  have hnext : (k + 1) * l = k * l + l := Nat.succ_mul k l
  split
  case isTrue h =>
    have hmul : (lineOffset m l k + 1) * m = lineOffset m l k * m + m := Nat.succ_mul _ m
    exact lineOffset_eq (by omega) (by omega)
  case isFalse h => exact lineOffset_eq (b := lineOffset m l k) (by omega) (by omega)

/-- A move counts on an axis, unless the axis is the shorter one. -/
theorem lineOffset_succ_or (hl : l ≤ m) (hk : k < m) :
    lineOffset m l (k + 1) = lineOffset m l k + 1 ∨ (lineOffset m l (k + 1) = lineOffset m l k ∧ l < m) := by
  rcases hl.eq_or_lt with rfl | hlt
  · rw [lineOffset_self hk.le, lineOffset_self hk]
    exact .inl rfl
  · rw [lineOffset_succ hl (by omega)]
    split
    · exact .inl rfl
    · exact .inr ⟨rfl, hlt⟩

end

/-! ### The stepper in closed form (R196) -/

/-- The point after `k` moves of a line from `(x0, y0)` that extends by `dx` and `dy` in the directions `sx` and `sy`. -/
def linePoint (x0 y0 sx sy : Int) (dx dy k : Nat) : Int × Int :=
  (x0 + lineOffset (max dx dy) dx k * sx, y0 + lineOffset (max dx dy) dy k * sy)

/-- The error term of the stepper after `k` moves, where `x` is the longer axis. -/
def lineError (dx dy k : Nat) : Int := (lineOffset dx dy k + 1) * dx - (k + 1) * dy

section
variable {dx dy k : Nat}

/-- The error term, its products apart. -/
theorem lineError_eq : lineError dx dy k =
    ((lineOffset dx dy k * dx : Nat) : Int) + dx - ((k * dy : Nat) : Int) - dy := by
  unfold lineError; push_cast; ring

variable (hle : dy ≤ dx) (hpos : 0 < dx)
include hle hpos

/-- The stepper's first test always holds: every move counts on the longer axis. -/
theorem lineError_ge : 2 * lineError dx dy k ≥ -dy := by
  have hbounds := lineOffset_bounds (l := dy) (k := k) hpos
  rw [lineError_eq]
  omega

/-- The stepper's second test decides whether the move counts on the shorter axis. -/
theorem lineOffset_succ_eq : lineOffset dx dy (k + 1) =
    lineOffset dx dy k + if 2 * lineError dx dy k ≤ dx then 1 else 0 := by
  have htest : 2 * lineError dx dy k ≤ dx ↔ 2 * (lineOffset dx dy k * dx) + dx ≤ 2 * (k * dy) + 2 * dy := by
    rw [lineError_eq]
    omega
  simp only [lineOffset_succ hle hpos, htest]

theorem lineError_succ : lineError dx dy (k + 1) =
    lineError dx dy k + -dy + if 2 * lineError dx dy k ≤ dx then (dx : Int) else 0 := by
  rw [lineError, lineOffset_succ_eq hle hpos]
  split <;> (rw [lineError]; push_cast; ring)

end

/-- Where `x` is the longer axis: the loop begun after `k` moves visits the remaining points. -/
theorem lineFrom_eq {x0 y0 sx sy : Int} {dx dy : Nat} (hle : dy ≤ dx) (hsx : sx ≠ 0) (fuel k : Nat) (hk : k + fuel = dx) :
    lineFrom (x0 + dx * sx) (y0 + dy * sy) dx (-dy) sx sy fuel (x0 + k * sx) (y0 + lineOffset dx dy k * sy)
        (lineError dx dy k) =
      (List.range (fuel + 1)).map fun j => (x0 + (k + j : Nat) * sx, y0 + lineOffset dx dy (k + j) * sy) := by
  induction fuel generalizing k with
  | zero => rfl
  | succ fuel ih =>
    have hpos : 0 < dx := by omega
    have hnotEnd : ¬(x0 + k * sx = x0 + dx * sx ∧ y0 + lineOffset dx dy k * sy = y0 + dy * sy) := by
      rintro ⟨hx, -⟩
      have hkdx : (k : Int) = dx := mul_right_cancel₀ hsx (add_left_cancel hx)
      omega
    have hmove := lineError_ge (k := k) hle hpos
    have hx : x0 + k * sx + sx = x0 + (k + 1 : Nat) * sx := by push_cast; ring
    have hy : (if 2 * lineError dx dy k ≤ dx then y0 + lineOffset dx dy k * sy + sy else y0 + lineOffset dx dy k * sy) =
        y0 + lineOffset dx dy (k + 1) * sy := by
      rw [lineOffset_succ_eq hle hpos]
      split <;> (push_cast; ring)
    rw [lineFrom, if_neg hnotEnd, if_pos hmove, if_pos hmove, ← lineError_succ hle hpos, hx, hy, ih (k + 1) (by omega),
      List.range_succ_eq_map (n := fuel + 1), List.map_cons, List.map_map, Nat.add_zero]
    congr 1
    refine List.map_congr_left fun j _ => ?_
    rw [Function.comp_apply, Nat.succ_eq_add_one, Nat.add_right_comm, Nat.add_assoc k j 1]

/-- Exchanging the axes exchanges the two tests and the sign of the error term. -/
theorem lineFrom_swap (x1 y1 dx dy sx sy : Int) (fuel : Nat) (x y err : Int) :
    lineFrom y1 x1 (-dy) (-dx) sy sx fuel y x (-err) = (lineFrom x1 y1 dx dy sx sy fuel x y err).map Prod.swap := by
  induction fuel generalizing x y err with
  | zero => rfl
  | succ fuel ih =>
    have hx : 2 * -err ≤ -dy ↔ 2 * err ≥ dy := by omega
    have hy : 2 * -err ≥ -dx ↔ 2 * err ≤ dx := by omega
    have herror : -err + (if 2 * err ≤ dx then -dx else 0) + (if 2 * err ≥ dy then -dy else 0) =
        -(err + (if 2 * err ≥ dy then dy else 0) + if 2 * err ≤ dx then dx else 0) := by
      split_ifs <;> ring
    simp only [lineFrom, hx, hy, herror, ih, and_comm (a := y = y1)]
    split <;> rfl

theorem lineSeq_swap (x0 y0 x1 y1 : Int) : lineSeq y0 x0 y1 x1 = (lineSeq x0 y0 x1 y1).map Prod.swap := by
  have herror : ((y1 - y0).natAbs : Int) + -((x1 - x0).natAbs : Int) =
      -((x1 - x0).natAbs + -((y1 - y0).natAbs : Int)) := by ring
  rw [lineSeq, lineSeq, ← lineFrom_swap, neg_neg, herror, max_comm]

/-- The direction and the length of an axis lead from one end to the other. -/
theorem add_natAbs_mul_direction (a b : Int) : a + (b - a).natAbs * (if a < b then 1 else -1) = b := by
  split <;> omega

theorem direction_ne_zero (a b : Int) : (if a < b then 1 else -1 : Int) ≠ 0 := by
  split <;> decide

theorem lineSeq_eq_of_le {x0 y0 x1 y1 : Int} (hle : (y1 - y0).natAbs ≤ (x1 - x0).natAbs) :
    lineSeq x0 y0 x1 y1 = (List.range (max (x1 - x0).natAbs (y1 - y0).natAbs + 1)).map
      (linePoint x0 y0 (if x0 < x1 then 1 else -1) (if y0 < y1 then 1 else -1) (x1 - x0).natAbs (y1 - y0).natAbs) := by
  have hrun := lineFrom_eq (x0 := x0) (y0 := y0) (sy := if y0 < y1 then 1 else -1) hle (direction_ne_zero x0 x1)
    (x1 - x0).natAbs 0 (Nat.zero_add _)
  rw [add_natAbs_mul_direction, add_natAbs_mul_direction, lineOffset_zero, Nat.cast_zero, zero_mul, zero_mul, add_zero,
    add_zero] at hrun
  have hstart : lineError (x1 - x0).natAbs (y1 - y0).natAbs 0 = (x1 - x0).natAbs + -((y1 - y0).natAbs : Int) := by
    rw [lineError, lineOffset_zero]; push_cast; ring
  rw [hstart] at hrun
  rw [lineSeq, max_eq_left hle, hrun]
  refine List.map_congr_left fun k hk => ?_
  have hk : k ≤ (x1 - x0).natAbs := Nat.le_of_lt_succ (List.mem_range.mp hk)
  rw [linePoint, max_eq_left hle, lineOffset_self hk, Nat.zero_add]

theorem swap_linePoint (x0 y0 sx sy : Int) (dx dy k : Nat) :
    (linePoint x0 y0 sx sy dx dy k).swap = linePoint y0 x0 sy sx dy dx k := by
  rw [linePoint, linePoint, max_comm, Prod.swap_prod_mk]

/-- The stepper visits, in order, the points of the rounded line. -/
theorem lineSeq_eq (x0 y0 x1 y1 : Int) : lineSeq x0 y0 x1 y1 =
    (List.range (max (x1 - x0).natAbs (y1 - y0).natAbs + 1)).map
      (linePoint x0 y0 (if x0 < x1 then 1 else -1) (if y0 < y1 then 1 else -1) (x1 - x0).natAbs (y1 - y0).natAbs) := by
  rcases Nat.le_total (y1 - y0).natAbs (x1 - x0).natAbs with hle | hle
  · exact lineSeq_eq_of_le hle
  · rw [lineSeq_swap, lineSeq_eq_of_le hle, List.map_map, max_comm]
    exact List.map_congr_left fun k _ => swap_linePoint ..

/-! ### The points of the rounded line (R195) -/

section
variable {x0 y0 sx sy : Int} {dx dy : Nat}

theorem linePoint_zero : linePoint x0 y0 sx sy dx dy 0 = (x0, y0) := by
  simp [linePoint, lineOffset_zero]

theorem linePoint_last : linePoint x0 y0 sx sy dx dy (max dx dy) = (x0 + dx * sx, y0 + dy * sy) := by
  rw [linePoint, lineOffset_last (le_max_left ..), lineOffset_last (le_max_right ..)]

/-- One of the two axes is the longer, and on it every move counts. -/
theorem linePoint_injective (hsx : sx ≠ 0) (hsy : sy ≠ 0) {j k : Nat} (hj : j ≤ max dx dy) (hk : k ≤ max dx dy)
    (h : linePoint x0 y0 sx sy dx dy j = linePoint x0 y0 sx sy dx dy k) : j = k := by
  obtain ⟨hx, hy⟩ := Prod.mk.inj h
  have hoffset {s : Int} (hs : s ≠ 0) {a : Int} {b c : Nat} (heq : a + b * s = a + c * s) : b = c :=
    Int.natCast_inj.mp (mul_right_cancel₀ hs (add_left_cancel heq))
  rcases max_choice dx dy with hmax | hmax
  · rw [hmax] at hx hj hk
    simpa only [lineOffset_self hj, lineOffset_self hk] using hoffset hsx hx
  · rw [hmax] at hy hj hk
    simpa only [lineOffset_self hj, lineOffset_self hk] using hoffset hsy hy

theorem linePoint_succ {k : Nat} (hk : k < max dx dy) :
    let p := linePoint x0 y0 sx sy dx dy k
    let q := linePoint x0 y0 sx sy dx dy (k + 1)
    (q.1 = p.1 + sx ∨ (q.1 = p.1 ∧ dx < dy)) ∧ (q.2 = p.2 + sy ∨ (q.2 = p.2 ∧ dy < dx)) := by
  have hadd (a s : Int) (b : Nat) : a + (b + 1 : Nat) * s = a + b * s + s := by push_cast; ring
  simp only [linePoint]
  constructor
  · rcases lineOffset_succ_or (le_max_left dx dy) hk with hstep | ⟨hstay, hlt⟩
    · exact .inl (by rw [hstep, hadd])
    · exact .inr ⟨by rw [hstay], by omega⟩
  · rcases lineOffset_succ_or (le_max_right dx dy) hk with hstep | ⟨hstay, hlt⟩
    · exact .inl (by rw [hstep, hadd])
    · exact .inr ⟨by rw [hstay], by omega⟩

theorem linePoint_of_diagonal {k : Nat} (h : dx = dy) (hk : k ≤ dx) :
    linePoint x0 y0 sx sy dx dy k = (x0 + k * sx, y0 + k * sy) := by
  subst h
  rw [linePoint, max_self, lineOffset_self hk]

theorem linePoint_of_row {k : Nat} (h : dy = 0) (hk : k ≤ dx) : linePoint x0 y0 sx sy dx dy k = (x0 + k * sx, y0) := by
  subst h
  rw [linePoint, Nat.max_zero, lineOffset_self hk, lineOffset_of_length_zero, Nat.cast_zero, zero_mul, add_zero]

theorem linePoint_of_column {k : Nat} (h : dx = 0) (hk : k ≤ dy) : linePoint x0 y0 sx sy dx dy k = (x0, y0 + k * sy) := by
  subst h
  rw [linePoint, Nat.zero_max, lineOffset_self hk, lineOffset_of_length_zero, Nat.cast_zero, zero_mul, add_zero]

end

/-! ### CLINE (R197) -/

theorem exec_cline (cs : CReg) (rr : RReg) (s : State) : exec (.cline cs rr) s = complete (encode (.cline cs rr)) s
    (require (s.C cs).WF .badCanvas <|
     require ((s.C cs).Fits s.mem.words) .memRange <|
     s.plotAll (s.C cs) (lineSeq (s.rect rr).x (s.rect rr).y (s.rect rr).w (s.rect rr).h)) := rfl

end Sys2Proof.Machine

namespace Sys2Proof.Proofs
open Sys2Proof.Machine

/-- Settles O59: the sequence is that of the rounded line, whose points have the properties; the examples by
evaluation. -/
theorem lineVisitsEachPointOnce : Obligations.LineVisitsEachPointOnce := by
  refine ⟨fun x0 y0 x1 y1 => ?points, by decide, by decide, by decide, by decide, by decide, by decide⟩
  intro ps dx dy sx sy
  have hps : ps = (List.range (max dx dy + 1)).map (linePoint x0 y0 sx sy dx dy) := lineSeq_eq x0 y0 x1 y1
  have hlength : ps.length = max dx dy + 1 := by rw [hps, List.length_map, List.length_range]
  have hget {k : Nat} (hk : k ≤ max dx dy) : ps[k]? = some (linePoint x0 y0 sx sy dx dy k) := by
    rw [hps, List.getElem?_map, List.getElem?_range (by omega), Option.map_some]
  refine ⟨?head, ?last, ?nodup, hlength, ?moves, fun h k hk => ?diagonal, fun h k hk => ?row, fun h k hk => ?column⟩
  case head => rw [List.head?_eq_getElem?, hget (Nat.zero_le _), linePoint_zero]
  case last =>
    rw [List.getLast?_eq_getElem?, hlength, Nat.add_sub_cancel, hget le_rfl, linePoint_last,
      add_natAbs_mul_direction, add_natAbs_mul_direction]
  case nodup =>
    rw [hps]
    exact List.nodup_range.map_on fun j hj k hk => linePoint_injective (direction_ne_zero x0 x1)
      (direction_ne_zero y0 y1) (Nat.le_of_lt_succ (List.mem_range.mp hj)) (Nat.le_of_lt_succ (List.mem_range.mp hk))
  case moves =>
    intro k p q hp hq
    have hk : k + 1 < ps.length := (List.getElem?_eq_some_iff.mp hq).1
    rw [hlength] at hk
    obtain rfl := Option.some.inj ((hget (by omega)).symm.trans hp)
    obtain rfl := Option.some.inj ((hget (by omega)).symm.trans hq)
    exact linePoint_succ (by omega)
  case diagonal => rw [hget (by omega), linePoint_of_diagonal h hk]
  case row => rw [hget (by omega), linePoint_of_row h hk]
  case column => rw [hget (by omega), linePoint_of_column h hk]

/-- Settles O60: past its two tests the command plots the points of the line, which all completes. -/
theorem clineSetsThePixelsOfTheLine : Obligations.ClineSetsThePixelsOfTheLine := by
  intro cs rr s c q
  have hexec := exec_cline cs rr s
  refine ⟨hasWord_encode rfl, faults_of_not_require hexec,
    fun hw hf => faults_of_not_require (exec_of_require hexec hw) hf, fun hw hf => ?line⟩
  case line =>
    obtain ⟨t, ht⟩ := s.plotAll_ok hw hf (lineSeq q.x q.y q.w q.h)
    obtain ⟨m, rfl, hwords, hpowerOn, -, hbits⟩ := State.plotAll_eq_ok ht
    refine ⟨m, ?_, hwords, hpowerOn, hbits⟩
    rw [exec_of_require (exec_of_require hexec hw) hf, ht, complete_ok]

end Sys2Proof.Proofs
end
